-- ==== Sys2Proof/Word.lean ====
section
/-! DEFINITION. The data the block moves: bytes and byte strings, a MAC, a 16-byte block, and the kinds of record.
The types only, with their plainest operations; every computation of the spec stands in Decode.lean or under Machine/. -/

namespace Sys2Proof

/-- A byte (00_scope.md R10). -/
abbrev Byte := BitVec 8

/-- A byte string, first byte first (00_scope.md R10). -/
abbrev Bytes := List Byte

/-- A device's MAC: 6 bytes in the order the host supplies them, compared bytewise (10_state.md R24, R25; D3). -/
structure Mac where
  b0 : Byte
  b1 : Byte
  b2 : Byte
  b3 : Byte
  b4 : Byte
  b5 : Byte
deriving DecidableEq, Repr

/-- The MAC with all 48 bits 0, a slot's reset value (10_state.md R24). -/
def Mac.zero : Mac := ⟨0, 0, 0, 0, 0, 0⟩

/-- The MAC's bytes in wire order (30_encoding.md R91). -/
def Mac.toBytes (m : Mac) : Bytes := [m.b0, m.b1, m.b2, m.b3, m.b4, m.b5]

/-- A word of the AES state: 4 bytes, one column (41_aes_ctr.md R151). -/
structure Column where
  a0 : Byte
  a1 : Byte
  a2 : Byte
  a3 : Byte
deriving DecidableEq, Repr

/-- 16 bytes: an AES block, state, round key, or a device's 128-bit key. Column `c` holds bytes `4c .. 4c+3`: the
input fills the state column by column (41_aes_ctr.md R151). -/
structure Block where
  c0 : Column
  c1 : Column
  c2 : Column
  c3 : Column
deriving DecidableEq, Repr

/-- The bytes of a column, row 0 first. -/
def Column.toBytes (c : Column) : Bytes := [c.a0, c.a1, c.a2, c.a3]

/-- The block's bytes `out[0] .. out[15]`. -/
def Block.toBytes (b : Block) : Bytes := b.c0.toBytes ++ b.c1.toBytes ++ b.c2.toBytes ++ b.c3.toBytes

/-- Sixteen zero bytes, the reset value of a slot's key (10_state.md R24). -/
def Block.zero : Block := ⟨⟨0, 0, 0, 0⟩, ⟨0, 0, 0, 0⟩, ⟨0, 0, 0, 0⟩, ⟨0, 0, 0, 0⟩⟩

/-- The three kinds of record that have a layout (30_encoding.md R95 to R97); DECREC's `kind` operand. -/
inductive RecordKind where
  | batteryMonitor
  | solarCharger
  | acCharger
deriving DecidableEq, Repr

/-- DeviceKind: the dispatcher's answer (10_state.md R34, 42_header_dispatch.md R185). -/
inductive DeviceKind where
  | unsupported
  | supported (k : RecordKind)
deriving DecidableEq, Repr

end Sys2Proof
end

