-- ==== Sys2Proof/Machine/Operands.lean ====
section
/-! DEFINITION. How operands are read: bits and bit fields of a byte string, sign extension (00_scope.md R9 to R12,
20_memory.md R61, R64), and the reader of 40_bitreader.md R130. -/

namespace Sys2Proof.Machine

/-- `bit(b, p) = (b[p >> 3] >> (p & 7)) & 1` (00_scope.md R10, 20_memory.md R61), defined for `p < 8*len(b)`. -/
def bitAt (b : Bytes) (p : Nat) : Nat := (b.getD (p / 8) 0).toNat / 2 ^ (p % 8) % 2

/-- `BitRead(buf, p, n) = sum over i < n of bit(buf, p+i) << i` (00_scope.md R12): bit `p` is the least significant. -/
def bitRead (buf : Bytes) : Nat → Nat → Nat
  | _, 0 => 0
  | p, n + 1 => bitAt buf p + 2 * bitRead buf (p + 1) n

/-- `sext_N(v)`: `v - 2^N` if `v[N-1] = 1`, else `v` (00_scope.md R9). -/
def sext (n v : Nat) : Int := if v / 2 ^ (n - 1) % 2 = 1 then (v : Int) - 2 ^ n else v

/-- `can_read((buf,cur), n) = (cur + n <= 8*len(buf))`, for a buffer of `len` bytes (40_bitreader.md R130). -/
def canRead (len cur n : Nat) : Bool := decide (cur + n ≤ 8 * len)

/-- The widths a bit read may have, 1 to 32 (40_bitreader.md R130, R133). -/
def legalWidth (n : Nat) : Bool := decide (1 ≤ n) && decide (n ≤ 32)

/-- An exact integer narrowed to 32-bit two's complement: `s mod 2^32` (40_bitreader.md R134, 10_state.md R38). -/
def toReg32 (x : Int) : BitVec 32 := BitVec.ofInt 32 x

end Sys2Proof.Machine
end

