-- ==== Sys2Proof/Config.lean ====
section
/-! DEFINITION. The implementation parameters of 00_scope.md R7, fixed for the life of the model (R321). The operations
that depend on one take it as an argument; the machine is built at `Config.params` (log entry 4). -/

namespace Sys2Proof

/-- How the counter block advances from one 16-byte block to the next (41_aes_ctr.md R161). -/
inductive CtrInc where
  | be128
  | le128
deriving DecidableEq, Repr

/-- Wire order of the six AC Charger bank fields (30_encoding.md R97). -/
inductive BankOrder where
  | grouped
  | interleaved
deriving DecidableEq, Repr

/-- The eight parameters of 00_scope.md R7. -/
structure Params where
  /-- `N_SLOTS`: number of device slots. -/
  nSlots : Nat
  /-- `BUF_MAX`: largest byte-string operand, in bytes. -/
  bufMax : Nat
  /-- `CTR_INC`. -/
  ctrInc : CtrInc
  /-- `SUBHDR_SKIP_BITS`: bits the Battery Monitor decoder discards before its first field. -/
  subhdrSkipBits : Nat
  /-- `AC_BANK_ORDER`. -/
  acBankOrder : BankOrder
  /-- `V_MIN_CV`: lower plausibility bound on voltage, in 0.01 V. -/
  vMinCv : Nat
  /-- `V_MAX_CV`: upper plausibility bound on voltage, in 0.01 V. -/
  vMaxCv : Nat
  /-- `I_MAX_A`: plausibility bound on current magnitude, in A. -/
  iMaxA : Nat
deriving DecidableEq, Repr

/-- The defaults of 00_scope.md R7, "the value this spec decides for this hardware".
DESIGN CHOICE (log entry 4): the machine is instantiated at them; unsafe for a block built with other values. -/
def Config.params : Params where
  nSlots := 3
  bufMax := 31
  ctrInc := .be128
  subhdrSkipBits := 0
  acBankOrder := .grouped
  vMinCv := 1000
  vMaxCv := 15000
  iMaxA := 1000

end Sys2Proof
end

