-- ==== Sys2Proof/Syntax.lean ====
section
/-! DEFINITION. The instructions: one constructor per row of spec/opcode_table.json, eleven CMD rows (the host commands,
30_encoding.md R91) and twelve ADV rows (the frame a DECODE carries, R93, R99 to R101, R109). -/

namespace Sys2Proof

/-- DECODE's operands beside the frame: `mac`, `flags` bit 0 and `rssi` (30_encoding.md R91). -/
structure Envelope where
  mac : Mac
  rssiValid : Bool
  rssi : Byte
deriving DecidableEq, Repr

/-- The instructions. An ADV constructor is a DECODE whose frame selects that row (42_header_dispatch.md R189): its
operands are DECODE's envelope and the frame's fields that the row leaves free, in wire order (log entry 3). -/
inductive Instr where
  /-- RESET (45_host_commands.md R260). -/
  | reset
  /-- KEYLOAD (45_host_commands.md R262); `klen` is the length of `kbytes`. -/
  | keyload (mac : Mac) (kbytes : Bytes)
  /-- DECODE (44_offset_search_decode.md R247); `rlen` is the length of `raw`. -/
  | decode (env : Envelope) (raw : Bytes)
  /-- CTRCRYPT (41_aes_ctr.md R164). -/
  | ctrcrypt (kbytes : Bytes) (counter : BitVec 16) (data : Bytes)
  /-- BROPEN (40_bitreader.md R131). -/
  | bropen (bytes : Bytes)
  /-- BRCAN (40_bitreader.md R132). -/
  | brcan (n : Byte)
  /-- BRREADU (40_bitreader.md R133). -/
  | brreadu (n : Byte)
  /-- BRREADS (40_bitreader.md R134). -/
  | brreads (n : Byte)
  /-- PARSEHDR (42_header_dispatch.md R181). -/
  | parsehdr (raw : Bytes)
  /-- CLASSIFY (42_header_dispatch.md R186). -/
  | classify (model : BitVec 16) (mode : Byte)
  /-- DECREC (43_record_decoders.md R230). -/
  | decrec (kind : RecordKind) (plaintext : Bytes)
  /-- ADV.SOLAR: marker `0x10`, mode `0x01`. -/
  | advSolar (env : Envelope) (model counter : BitVec 16) (ciphertext : Bytes)
  /-- ADV.BM: marker `0x10`, mode `0x02`. -/
  | advBm (env : Envelope) (model counter : BitVec 16) (ciphertext : Bytes)
  /-- ADV.AC: marker `0x10`, mode `0x08`. -/
  | advAc (env : Envelope) (model counter : BitVec 16) (ciphertext : Bytes)
  /-- ADV.DCEM: marker `0x10`, mode `0x0D`. -/
  | advDcem (env : Envelope) (model counter : BitVec 16) (ciphertext : Bytes)
  /-- ADV.A0.SOLAR: marker `0x10`, mode `0xA0`, model `0x6002`. -/
  | advA0Solar (env : Envelope) (counter : BitVec 16) (ciphertext : Bytes)
  /-- ADV.A0.BM: marker `0x10`, mode `0xA0`, model `0x8302`. -/
  | advA0Bm (env : Envelope) (counter : BitVec 16) (ciphertext : Bytes)
  /-- ADV.A0.AC: marker `0x10`, mode `0xA0`, model `0x2E00`. -/
  | advA0Ac (env : Envelope) (counter : BitVec 16) (ciphertext : Bytes)
  /-- ADV.A3.SOLAR: marker `0x10`, mode `0xA3`, model `0x6002`. -/
  | advA3Solar (env : Envelope) (counter : BitVec 16) (ciphertext : Bytes)
  /-- ADV.A3.BM: marker `0x10`, mode `0xA3`, model `0x8302`. -/
  | advA3Bm (env : Envelope) (counter : BitVec 16) (ciphertext : Bytes)
  /-- ADV.A3.AC: marker `0x10`, mode `0xA3`, model `0x2E00`. -/
  | advA3Ac (env : Envelope) (counter : BitVec 16) (ciphertext : Bytes)
  /-- ADV.OTHERMODE: marker `0x10`, any other (mode, model). -/
  | advOthermode (env : Envelope) (model : BitVec 16) (mode : Byte) (counter : BitVec 16) (ciphertext : Bytes)
  /-- ADV.OTHERMARKER: marker not `0x10`. -/
  | advOthermarker (env : Envelope) (marker : Byte) (model : BitVec 16) (mode : Byte) (counter : BitVec 16)
      (ciphertext : Bytes)
deriving DecidableEq, Repr

end Sys2Proof
end

