-- ==== Sys2Proof/Machine/State.lean ====
section
/-! DEFINITION. The state of the block (10_state.md R20 to R46), its reset value (70_reset_and_hazards.md R320), and the
reasons a step of the model could stop. -/

namespace Sys2Proof.Machine

/-- One field register: `F_RD[k]`, `F_V[k]` and `F[k]` (10_state.md R38, 00_scope.md R14). -/
structure FieldReg where
  /-- `F_RD[k]`: the field's bits were present in the payload and were read. -/
  rd : Bool
  /-- `F_V[k]`: the field was read and is not its sentinel. -/
  v : Bool
  /-- `F[k]`: the scaled value, 32-bit two's complement; 0 whenever `F_V[k] = 0`. -/
  val : BitVec 32
deriving DecidableEq, Repr

/-- A field register that is cleared, or whose field was not read. -/
def FieldReg.zero : FieldReg := ⟨false, false, 0⟩

/-- The field registers `k = 0 .. 10` (10_state.md R38); their meaning per kind is R41 to R43. -/
abbrev Fields := Vector FieldReg 11

/-- All field registers cleared. -/
def Fields.zero : Fields := Vector.replicate 11 FieldReg.zero

/-- One entry of the slot table (10_state.md R24). -/
structure Slot where
  used : Bool
  mac : Mac
  keyOk : Bool
  key : Block
  seen : Bool
  lastCtr : BitVec 16
deriving DecidableEq, Repr

/-- A slot at reset: unused, all fields 0 (10_state.md R24). -/
def Slot.empty : Slot := ⟨false, Mac.zero, false, Block.zero, false, 0⟩

/-- The result registers (10_state.md R32 to R40). -/
structure Results where
  /-- `R_STATUS`, R32. -/
  rStatus : BitVec 8
  /-- `R_EMIT`, R33. -/
  rEmit : Bool
  /-- `R_KIND`, R34. -/
  rKind : BitVec 2
  /-- `R_MAC`, R35. -/
  rMac : Mac
  /-- `R_RSSI_V`, R35. -/
  rRssiV : Bool
  /-- `R_RSSI`, R35. -/
  rRssi : BitVec 8
  /-- `R_MODEL`, R36. -/
  rModel : BitVec 16
  /-- `R_MODE`, R36. -/
  rMode : BitVec 8
  /-- `R_CTR`, R36. -/
  rCtr : BitVec 16
  /-- `R_CTLEN`, R36. -/
  rCtlen : BitVec 8
  /-- `R_OFFSET`, R37. -/
  rOffset : BitVec 3
  /-- `R_PLAUS`, R37. -/
  rPlaus : Bool
  /-- `F_RD[k]`, `F_V[k]`, `F[k]`, R38. -/
  fields : Fields
  /-- `R_BOOL`, R39. -/
  rBool : Bool
  /-- `R_VAL`, R39. -/
  rVal : BitVec 32
  /-- `R_DLEN`, R40. -/
  rDlen : BitVec 8
  /-- `R_DATA[0 .. R_DLEN-1]`, R40. -/
  rData : Bytes
deriving DecidableEq, Repr

/-- Every result register 0: their value at reset and after the clearing of 10_state.md R31. Status 0 is `OK`. -/
def Results.zero : Results where
  rStatus := 0
  rEmit := false
  rKind := 0
  rMac := Mac.zero
  rRssiV := false
  rRssi := 0
  rModel := 0
  rMode := 0
  rCtr := 0
  rCtlen := 0
  rOffset := 0
  rPlaus := false
  fields := Fields.zero
  rBool := false
  rVal := 0
  rDlen := 0
  rData := []

/-- The state of the block: the four parts of 10_state.md R20, and the command port. -/
structure State where
  /-- `SLOT[0 .. N_SLOTS-1]`, R24. -/
  slots : List Slot
  /-- `FAULT`, R28. -/
  fault : Bool
  /-- `FAULT_CODE`, R28. -/
  faultCode : BitVec 8
  /-- `BR_BUF`, R29. -/
  brBuf : Bytes
  /-- `BR_LEN`, R29. -/
  brLen : Nat
  /-- `BR_CUR`, R30. -/
  brCur : Nat
  /-- The result registers, R31 to R40. -/
  res : Results
  /-- The model's own field: the command strings the host has issued and the block has not yet taken, oldest first.
  DESIGN CHOICE (log entry 1). -/
  port : List Bytes
deriving DecidableEq, Repr

/-- The state right after reset (70_reset_and_hazards.md R320): every element 0 or empty; no command issued. -/
def State.reset : State where
  slots := List.replicate Config.params.nSlots Slot.empty
  fault := false
  faultCode := 0
  brBuf := []
  brLen := 0
  brCur := 0
  res := Results.zero
  port := []

/-- Why a step could stop with a fault: never. The spec's faults are states of the block that the next command meets
(60_exceptions.md R289, R290), and "for every input, in every state, exactly one outcome is specified"
(93_implementation_defined.md), so this type has no constructor (log entry 7). -/
inductive Fault where
deriving DecidableEq, Repr

/-- Why a step could be refused. -/
inductive Refusal where
  /-- An instruction without a meaning yet, named by its mnemonic. Raised by an arm of `exec` only; no arm raises it.
  Safe: a refused step proves nothing about the hardware. -/
  | notModelled (mnemonic : String)
deriving DecidableEq, Repr

/-- What a step answers. -/
abbrev Outcome := Host.Outcome State Fault Refusal

end Sys2Proof.Machine
end

