-- ==== Sys2Proof/Machine/Ops.lean ====
section
/-! DEFINITION. The operations the commands share: the status codes and a raise (60_exceptions.md), the frame every
command runs in (45_host_commands.md R265), the slot table, the bit reader's registers, and the result registers. -/

namespace Sys2Proof.Machine

/-! ### Status codes -/

/-- The statuses of 60_exceptions.md R280. -/
inductive Status where
  | ok
  | skipTooShort
  | skipRecordType
  | skipUnsupported
  | skipNoKey
  | skipDuplicate
  | skipTooLong
  /-- Reserved, never raised (R291). -/
  | cipherFail
  | cfgKeyLength
  | cfgKeyExists
  | cfgTableFull
  | badCommand
  | faultBrExhausted
  | faultBrWidth
  | faulted
deriving DecidableEq, Repr

/-- The status codes (60_exceptions.md R280). -/
def Status.code : Status → BitVec 8
  | .ok => 0x00
  | .skipTooShort => 0x01
  | .skipRecordType => 0x02
  | .skipUnsupported => 0x03
  | .skipNoKey => 0x04
  | .skipDuplicate => 0x05
  | .skipTooLong => 0x06
  | .cipherFail => 0x07
  | .cfgKeyLength => 0x10
  | .cfgKeyExists => 0x11
  | .cfgTableFull => 0x12
  | .badCommand => 0x13
  | .faultBrExhausted => 0x20
  | .faultBrWidth => 0x21
  | .faulted => 0x2F

/-- The sticky faults (60_exceptions.md R289). -/
def Status.sticky : Status → Bool
  | .faultBrExhausted => true
  | .faultBrWidth => true
  | _ => false

/-- The codes of DeviceKind in `R_KIND` (10_state.md R34). -/
def kindCode : DeviceKind → BitVec 2
  | .unsupported => 0
  | .supported .batteryMonitor => 1
  | .supported .solarCharger => 2
  | .supported .acCharger => 3

/-! ### Raises: the block's exceptions -/

/-- `raise <Status>`, the block's taking of an exception (00_scope.md R13, 60_exceptions.md R297): `R_STATUS` takes the
code; a sticky fault also sets `FAULT` and `FAULT_CODE` (R289); everything else holds what it held at the raise. -/
def State.raise (s : State) (st : Status) : State where
  slots := s.slots
  fault := s.fault || st.sticky
  faultCode := if st.sticky then st.code else s.faultCode
  brBuf := s.brBuf
  brLen := s.brLen
  brCur := s.brCur
  res := { s.res with rStatus := st.code }
  port := s.port

/-- The answer to a command while `FAULT = 1` (60_exceptions.md R290, 45_host_commands.md R265 step 2): `R_STATUS`
takes `FAULTED` and nothing else changes. -/
def State.refuseFaulted (s : State) : State := { s with res := { s.res with rStatus := Status.faulted.code } }

/-- The one recovery from a sticky fault (60_exceptions.md R298, 45_host_commands.md R260): every state element takes its
reset value. The commands still at the port are the host's, not the block's, and stay (log entry 5). -/
def State.toReset (s : State) : State := { State.reset with port := s.port }

/-! ### The frame of every command -/

/-- Every result register to 0 (10_state.md R31). -/
def State.clearResults (s : State) : State := { s with res := Results.zero }

/-- What every command but RESET runs in (45_host_commands.md R265 steps 2, 3 and 5): refused while `FAULT = 1`; otherwise
the result registers are cleared and the command's rule runs. -/
def State.accept (s : State) (rule : State → State) : Outcome :=
  .next (if s.fault then s.refuseFaulted else rule s.clearResults)

/-- The answer to a malformed command (45_host_commands.md R265 step 4, 60_exceptions.md R288). -/
def execMalformed (s : State) : Outcome := s.accept fun s => s.raise .badCommand

/-! ### The bit reader's registers -/

/-- `BR_BUF <- bytes ; BR_LEN <- blen ; BR_CUR <- 0` (40_bitreader.md R131). -/
def State.openReader (s : State) (bytes : Bytes) : State := { s with brBuf := bytes, brLen := bytes.length, brCur := 0 }

/-- DECODE and DECREC leave the host's reader emptied (45_host_commands.md R270, 40_bitreader.md R139). -/
def State.emptyReader (s : State) : State := { s with brBuf := [], brLen := 0, brCur := 0 }

/-! ### The slot table -/

/-- `lookup(mac)`: the least `s` with `SLOT[s].used = 1` and `SLOT[s].mac = mac` (10_state.md R25). -/
def lookup (slots : List Slot) (mac : Mac) : Option Nat := slots.findIdx? fun sl => sl.used && decide (sl.mac = mac)

/-- The least index with `SLOT[s].used = 0` (45_host_commands.md R262). -/
def firstFree (slots : List Slot) : Option Nat := slots.findIdx? fun sl => !sl.used

/-- `SLOT[i]`. -/
def State.slot (s : State) (i : Nat) : Slot := s.slots.getD i Slot.empty

/-- `SLOT[i] <- sl`. -/
def State.setSlot (s : State) (i : Nat) (sl : Slot) : State := { s with slots := s.slots.set i sl }

/-! ### The result registers -/

/-- Update of the result registers by a command's rule. -/
def State.setRes (s : State) (f : Results → Results) : State := { s with res := f s.res }

end Sys2Proof.Machine
end

