-- ==== Sys2Proof/Machine/BitReader.lean ====
section
/-! DEFINITION. The host-visible bit reader: BROPEN, BRCAN, BRREADU, BRREADS (40_bitreader.md R131 to R134). -/

namespace Sys2Proof.Machine

/-- BROPEN (40_bitreader.md R131). -/
def execBropen (bytes : Bytes) (s : State) : Outcome := s.accept fun s => s.openReader bytes

/-- BRCAN (40_bitreader.md R132): any `n` from 0 to 255 is answered. -/
def execBrcan (n : Byte) (s : State) : Outcome :=
  s.accept fun s => s.setRes fun r => { r with rBool := canRead s.brLen s.brCur n.toNat }

/-- Steps 1 to 4 of BRREADU and BRREADS (40_bitreader.md R133): the width check, then the exhaustion check, each a sticky
fault that leaves the reader as it was; then the value, `result` of the unsigned pattern read, and the cursor's advance. -/
def State.bitFieldRead (s : State) (n : Nat) (result : Nat → BitVec 32) : State :=
  if !legalWidth n then s.raise .faultBrWidth
  else if !canRead s.brLen s.brCur n then s.raise .faultBrExhausted
  else { s with brCur := s.brCur + n, res := { s.res with rVal := result (bitRead s.brBuf s.brCur n) } }

/-- BRREADU (40_bitreader.md R133). -/
def execBrreadu (n : Byte) (s : State) : Outcome :=
  s.accept fun s => s.bitFieldRead n.toNat fun v => BitVec.ofNat 32 v

/-- BRREADS (40_bitreader.md R134): the pattern sign-extended, as 32-bit two's complement. -/
def execBrreads (n : Byte) (s : State) : Outcome :=
  s.accept fun s => s.bitFieldRead n.toNat fun v => toReg32 (sext n.toNat v)

end Sys2Proof.Machine
end

