-- ==== Sys2Proof/Decode.lean ====
section
/-! DEFINITION. The command decoder, total on any byte string, and the encoder (30_encoding.md R91 to R93, R99 to R103,
R109). A byte string that is no well-formed command is rejected with the clause of R92 that it breaks. -/

namespace Sys2Proof

/-- Why a command is malformed: the clauses of 30_encoding.md R92. The block answers each with `BAD_COMMAND`. -/
inductive DecodeError where
  /-- The string is empty: it has no opcode (45_host_commands.md R265). -/
  | noOpcode
  /-- The opcode is `0x0B .. 0xFF`. -/
  | unknownOpcode
  /-- The string is shorter or longer than its own length operands imply. -/
  | wrongLength
  /-- DECODE with `flags[7:1] != 0`. -/
  | reservedFlags
  /-- DECREC with `kind` 0 or greater than 3. -/
  | badKind
  /-- A length operand, other than DECODE's `rlen` and a `klen`, exceeds `BUF_MAX`. -/
  | operandTooLong
deriving DecidableEq, Repr

/-! ### Byte order -/

/-- `le16` of two bytes, the lower one first (00_scope.md R10). -/
def le16 (lo hi : Byte) : BitVec 16 := hi ++ lo

/-- The two bytes of a 16-bit integer operand, little-endian (30_encoding.md R91, 20_memory.md R63). -/
def bytes16 (v : BitVec 16) : Bytes := [v.extractLsb' 0 8, v.extractLsb' 8 8]

/-- The `k` low bytes of a number, least significant first. -/
def leBytes : Nat → Nat → Bytes
  | 0, _ => []
  | k + 1, n => BitVec.ofNat 8 n :: leBytes k (n / 256)

/-- A length as a 1-byte operand (30_encoding.md R91). -/
def lengthByte (b : Bytes) : Byte := BitVec.ofNat 8 b.length

/-! ### Decoding -/

/-- A byte string preceded by its 1-byte length: the string and what follows it, if all its bytes are there. -/
def takeCounted : Bytes → Option (Bytes × Bytes)
  | [] => none
  | n :: rest => if n.toNat ≤ rest.length then some (rest.take n.toNat, rest.drop n.toNat) else none

/-- The ADV row a parsed frame selects, the specific rows first (30_encoding.md R99 to R101, R109). -/
def selectAdv (env : Envelope) (marker : Byte) (model : BitVec 16) (mode : Byte) (counter : BitVec 16) (ct : Bytes) : Instr :=
  if marker ≠ 0x10 then .advOthermarker env marker model mode counter ct
  else if mode = 0x01 then .advSolar env model counter ct
  else if mode = 0x02 then .advBm env model counter ct
  else if mode = 0x08 then .advAc env model counter ct
  else if mode = 0x0D then .advDcem env model counter ct
  else if mode = 0xA0 ∧ model = 0x6002 then .advA0Solar env counter ct
  else if mode = 0xA0 ∧ model = 0x8302 then .advA0Bm env counter ct
  else if mode = 0xA0 ∧ model = 0x2E00 then .advA0Ac env counter ct
  else if mode = 0xA3 ∧ model = 0x6002 then .advA3Solar env counter ct
  else if mode = 0xA3 ∧ model = 0x8302 then .advA3Bm env counter ct
  else if mode = 0xA3 ∧ model = 0x2E00 then .advA3Ac env counter ct
  else .advOthermode env model mode counter ct

/-- The row of a DECODE command: the ADV row its frame selects; DECODE itself when the byte string is no frame, being
shorter than 6 bytes or longer than `BUF_MAX` (30_encoding.md R103, R109; log entry 3). -/
def selectRow (env : Envelope) (raw : Bytes) : Instr :=
  match raw with
  | marker :: m0 :: m1 :: mode :: c0 :: c1 :: ct =>
    if Config.params.bufMax < raw.length then .decode env raw
    else selectAdv env marker (le16 m0 m1) mode (le16 c0 c1) ct
  | _ => .decode env raw

/-- `00`, exactly one byte (45_host_commands.md R260). -/
def decodeReset : Bytes → Except DecodeError Instr
  | [] => .ok .reset
  | _ => .error .wrongLength

/-- `01 mac[6] klen kbytes`. -/
def decodeKeyload : Bytes → Except DecodeError Instr
  | b0 :: b1 :: b2 :: b3 :: b4 :: b5 :: rest =>
    match takeCounted rest with
    | some (kbytes, []) => .ok (.keyload ⟨b0, b1, b2, b3, b4, b5⟩ kbytes)
    | _ => .error .wrongLength
  | _ => .error .wrongLength

/-- `02 mac[6] flags rssi rlen raw`. -/
def decodeDecode : Bytes → Except DecodeError Instr
  | b0 :: b1 :: b2 :: b3 :: b4 :: b5 :: flags :: rssi :: rest =>
    match takeCounted rest with
    | some (raw, []) =>
      if flags &&& 0xFE ≠ 0 then .error .reservedFlags
      else .ok (selectRow ⟨⟨b0, b1, b2, b3, b4, b5⟩, flags.getLsbD 0, rssi⟩ raw)
    | _ => .error .wrongLength
  | _ => .error .wrongLength

/-- `03 klen kbytes ctr_lo ctr_hi dlen data`. -/
def decodeCtrcrypt (bs : Bytes) : Except DecodeError Instr :=
  match takeCounted bs with
  | some (kbytes, lo :: hi :: rest) =>
    match takeCounted rest with
    | some (data, []) =>
      if data.length ≤ Config.params.bufMax then .ok (.ctrcrypt kbytes (le16 lo hi) data) else .error .operandTooLong
    | _ => .error .wrongLength
  | _ => .error .wrongLength

/-- The commands of one counted byte string: BROPEN and PARSEHDR. -/
def decodeString (mk : Bytes → Instr) (bs : Bytes) : Except DecodeError Instr :=
  match takeCounted bs with
  | some (b, []) => if b.length ≤ Config.params.bufMax then .ok (mk b) else .error .operandTooLong
  | _ => .error .wrongLength

/-- The commands of one byte: BRCAN, BRREADU, BRREADS. -/
def decodeByte (mk : Byte → Instr) : Bytes → Except DecodeError Instr
  | [n] => .ok (mk n)
  | _ => .error .wrongLength

/-- `09 model_lo model_hi mode`. -/
def decodeClassify : Bytes → Except DecodeError Instr
  | [lo, hi, mode] => .ok (.classify (le16 lo hi) mode)
  | _ => .error .wrongLength

/-- DECREC's `kind` operand: 1, 2 or 3 (30_encoding.md R91, 10_state.md R34). -/
def recordKindOf (b : Byte) : Option RecordKind :=
  if b = 1 then some .batteryMonitor
  else if b = 2 then some .solarCharger
  else if b = 3 then some .acCharger
  else none

/-- `0A kind plen plaintext`. -/
def decodeDecrec : Bytes → Except DecodeError Instr
  | kind :: rest =>
    match recordKindOf kind with
    | some k => decodeString (.decrec k) rest
    | none => .error .badKind
  | _ => .error .wrongLength

/-- The decoder: byte 0 is the opcode (30_encoding.md R91). -/
def decodeCommand : Bytes → Except DecodeError Instr
  | [] => .error .noOpcode
  | op :: rest =>
    if op = 0x00 then decodeReset rest
    else if op = 0x01 then decodeKeyload rest
    else if op = 0x02 then decodeDecode rest
    else if op = 0x03 then decodeCtrcrypt rest
    else if op = 0x04 then decodeString .bropen rest
    else if op = 0x05 then decodeByte .brcan rest
    else if op = 0x06 then decodeByte .brreadu rest
    else if op = 0x07 then decodeByte .brreads rest
    else if op = 0x08 then decodeString .parsehdr rest
    else if op = 0x09 then decodeClassify rest
    else if op = 0x0A then decodeDecrec rest
    else .error .unknownOpcode

/-! ### Encoding -/

/-- A byte string preceded by its 1-byte length. -/
def counted (b : Bytes) : Bytes := lengthByte b :: b

/-- The bytes of a frame (30_encoding.md R93). -/
def encodeFrame (marker : Byte) (model : BitVec 16) (mode : Byte) (counter : BitVec 16) (ct : Bytes) : Bytes :=
  marker :: (bytes16 model ++ mode :: (bytes16 counter ++ ct))

/-- The bytes of a DECODE command (30_encoding.md R91). -/
def encodeDecode (env : Envelope) (raw : Bytes) : Bytes :=
  0x02 :: (env.mac.toBytes ++ (if env.rssiValid then 0x01 else 0x00) :: env.rssi :: counted raw)

/-- DECREC's `kind` operand, the code of 10_state.md R34. -/
def recordKindByte : RecordKind → Byte
  | .batteryMonitor => 1
  | .solarCharger => 2
  | .acCharger => 3

/-- The frame an ADV instruction stands for. Of a CMD instruction, `none`. -/
def Instr.frame : Instr → Option Bytes
  | .advSolar _ model ctr ct => some (encodeFrame 0x10 model 0x01 ctr ct)
  | .advBm _ model ctr ct => some (encodeFrame 0x10 model 0x02 ctr ct)
  | .advAc _ model ctr ct => some (encodeFrame 0x10 model 0x08 ctr ct)
  | .advDcem _ model ctr ct => some (encodeFrame 0x10 model 0x0D ctr ct)
  | .advA0Solar _ ctr ct => some (encodeFrame 0x10 0x6002 0xA0 ctr ct)
  | .advA0Bm _ ctr ct => some (encodeFrame 0x10 0x8302 0xA0 ctr ct)
  | .advA0Ac _ ctr ct => some (encodeFrame 0x10 0x2E00 0xA0 ctr ct)
  | .advA3Solar _ ctr ct => some (encodeFrame 0x10 0x6002 0xA3 ctr ct)
  | .advA3Bm _ ctr ct => some (encodeFrame 0x10 0x8302 0xA3 ctr ct)
  | .advA3Ac _ ctr ct => some (encodeFrame 0x10 0x2E00 0xA3 ctr ct)
  | .advOthermode _ model mode ctr ct => some (encodeFrame 0x10 model mode ctr ct)
  | .advOthermarker _ marker model mode ctr ct => some (encodeFrame marker model mode ctr ct)
  | .reset | .keyload _ _ | .decode _ _ | .ctrcrypt _ _ _ | .bropen _ | .brcan _ | .brreadu _ | .brreads _
  | .parsehdr _ | .classify _ _ | .decrec _ _ => none

/-- The encoder: the command string of an instruction. An ADV instruction is the DECODE command that carries its frame. -/
def encode : Instr → Bytes
  | .reset => [0x00]
  | .keyload mac kbytes => 0x01 :: (mac.toBytes ++ counted kbytes)
  | .decode env raw => encodeDecode env raw
  | .ctrcrypt kbytes ctr data => 0x03 :: (counted kbytes ++ (bytes16 ctr ++ counted data))
  | .bropen bytes => 0x04 :: counted bytes
  | .brcan n => [0x05, n]
  | .brreadu n => [0x06, n]
  | .brreads n => [0x07, n]
  | .parsehdr raw => 0x08 :: counted raw
  | .classify model mode => 0x09 :: (bytes16 model ++ [mode])
  | .decrec kind pt => 0x0A :: recordKindByte kind :: counted pt
  | .advSolar env model ctr ct => encodeDecode env (encodeFrame 0x10 model 0x01 ctr ct)
  | .advBm env model ctr ct => encodeDecode env (encodeFrame 0x10 model 0x02 ctr ct)
  | .advAc env model ctr ct => encodeDecode env (encodeFrame 0x10 model 0x08 ctr ct)
  | .advDcem env model ctr ct => encodeDecode env (encodeFrame 0x10 model 0x0D ctr ct)
  | .advA0Solar env ctr ct => encodeDecode env (encodeFrame 0x10 0x6002 0xA0 ctr ct)
  | .advA0Bm env ctr ct => encodeDecode env (encodeFrame 0x10 0x8302 0xA0 ctr ct)
  | .advA0Ac env ctr ct => encodeDecode env (encodeFrame 0x10 0x2E00 0xA0 ctr ct)
  | .advA3Solar env ctr ct => encodeDecode env (encodeFrame 0x10 0x6002 0xA3 ctr ct)
  | .advA3Bm env ctr ct => encodeDecode env (encodeFrame 0x10 0x8302 0xA3 ctr ct)
  | .advA3Ac env ctr ct => encodeDecode env (encodeFrame 0x10 0x2E00 0xA3 ctr ct)
  | .advOthermode env model mode ctr ct => encodeDecode env (encodeFrame 0x10 model mode ctr ct)
  | .advOthermarker env marker model mode ctr ct => encodeDecode env (encodeFrame marker model mode ctr ct)

/-- The instruction as the decoder names it: a DECODE whose byte string is a frame is the ADV row the frame selects. -/
def canonical : Instr → Instr
  | .decode env raw => selectRow env raw
  | .reset => .reset
  | .keyload mac kbytes => .keyload mac kbytes
  | .ctrcrypt kbytes ctr data => .ctrcrypt kbytes ctr data
  | .bropen bytes => .bropen bytes
  | .brcan n => .brcan n
  | .brreadu n => .brreadu n
  | .brreads n => .brreads n
  | .parsehdr raw => .parsehdr raw
  | .classify model mode => .classify model mode
  | .decrec kind pt => .decrec kind pt
  | .advSolar env model ctr ct => .advSolar env model ctr ct
  | .advBm env model ctr ct => .advBm env model ctr ct
  | .advAc env model ctr ct => .advAc env model ctr ct
  | .advDcem env model ctr ct => .advDcem env model ctr ct
  | .advA0Solar env ctr ct => .advA0Solar env ctr ct
  | .advA0Bm env ctr ct => .advA0Bm env ctr ct
  | .advA0Ac env ctr ct => .advA0Ac env ctr ct
  | .advA3Solar env ctr ct => .advA3Solar env ctr ct
  | .advA3Bm env ctr ct => .advA3Bm env ctr ct
  | .advA3Ac env ctr ct => .advA3Ac env ctr ct
  | .advOthermode env model mode ctr ct => .advOthermode env model mode ctr ct
  | .advOthermarker env marker model mode ctr ct => .advOthermarker env marker model mode ctr ct

/-! ### The opcode table -/

/-- The `match` and `mask` byte strings of an instruction's row in spec/opcode_table.json, in wire order (30_encoding.md
R109). -/
def rowPattern : Instr → Bytes × Bytes
  | .reset => ([0x00], [0xFF])
  | .keyload _ _ => ([0x01], [0xFF])
  | .decode _ _ => ([0x02], [0xFF])
  | .ctrcrypt _ _ _ => ([0x03], [0xFF])
  | .bropen _ => ([0x04], [0xFF])
  | .brcan _ => ([0x05], [0xFF])
  | .brreadu _ => ([0x06], [0xFF])
  | .brreads _ => ([0x07], [0xFF])
  | .parsehdr _ => ([0x08], [0xFF])
  | .classify _ _ => ([0x09], [0xFF])
  | .decrec _ _ => ([0x0A], [0xFF])
  | .advSolar _ _ _ _ => ([0x10, 0x00, 0x00, 0x01, 0x00, 0x00], [0xFF, 0x00, 0x00, 0xFF, 0x00, 0x00])
  | .advBm _ _ _ _ => ([0x10, 0x00, 0x00, 0x02, 0x00, 0x00], [0xFF, 0x00, 0x00, 0xFF, 0x00, 0x00])
  | .advAc _ _ _ _ => ([0x10, 0x00, 0x00, 0x08, 0x00, 0x00], [0xFF, 0x00, 0x00, 0xFF, 0x00, 0x00])
  | .advDcem _ _ _ _ => ([0x10, 0x00, 0x00, 0x0D, 0x00, 0x00], [0xFF, 0x00, 0x00, 0xFF, 0x00, 0x00])
  | .advA0Solar _ _ _ => ([0x10, 0x02, 0x60, 0xA0, 0x00, 0x00], [0xFF, 0xFF, 0xFF, 0xFF, 0x00, 0x00])
  | .advA0Bm _ _ _ => ([0x10, 0x02, 0x83, 0xA0, 0x00, 0x00], [0xFF, 0xFF, 0xFF, 0xFF, 0x00, 0x00])
  | .advA0Ac _ _ _ => ([0x10, 0x00, 0x2E, 0xA0, 0x00, 0x00], [0xFF, 0xFF, 0xFF, 0xFF, 0x00, 0x00])
  | .advA3Solar _ _ _ => ([0x10, 0x02, 0x60, 0xA3, 0x00, 0x00], [0xFF, 0xFF, 0xFF, 0xFF, 0x00, 0x00])
  | .advA3Bm _ _ _ => ([0x10, 0x02, 0x83, 0xA3, 0x00, 0x00], [0xFF, 0xFF, 0xFF, 0xFF, 0x00, 0x00])
  | .advA3Ac _ _ _ => ([0x10, 0x00, 0x2E, 0xA3, 0x00, 0x00], [0xFF, 0xFF, 0xFF, 0xFF, 0x00, 0x00])
  | .advOthermode _ _ _ _ _ => ([0x10, 0x00, 0x00, 0x00, 0x00, 0x00], [0xFF, 0x00, 0x00, 0x00, 0x00, 0x00])
  | .advOthermarker _ _ _ _ _ _ => ([0x00, 0x00, 0x00, 0x00, 0x00, 0x00], [0x00, 0x00, 0x00, 0x00, 0x00, 0x00])

/-- The byte string `w` selects a row: `(w[i] & mask[i]) = match[i]` for every `i` (30_encoding.md R109). -/
def matchesPattern (pattern : Bytes × Bytes) (w : Bytes) : Bool :=
  decide (pattern.2.length ≤ w.length) && decide (List.zipWith (· &&& ·) w pattern.2 = pattern.1)

/-- The bytes of an instruction that its table row is about: a frame for an ADV row, the command string for a CMD row. -/
def Instr.rowBytes (i : Instr) : Bytes := i.frame.getD (encode i)

/-! ### Words of the opcode table -/

/-- Byte `i` of a word numbered as the table numbers it: bit 0 is the least significant bit of byte 0. -/
def wordByte (v i : Nat) : Nat := v / 2 ^ (8 * i) % 256

/-- The total length that a command's own length operands imply (30_encoding.md R91), its bytes read from a word;
an unknown opcode implies none, and has one byte. -/
def impliedLength (v : Nat) : Nat :=
  match wordByte v 0 with
  | 0x00 => 1
  | 0x01 => 8 + wordByte v 7
  | 0x02 => 10 + wordByte v 9
  | 0x03 => 5 + wordByte v 1 + wordByte v (4 + wordByte v 1)
  | 0x04 => 2 + wordByte v 1
  | 0x05 => 2
  | 0x06 => 2
  | 0x07 => 2
  | 0x08 => 2 + wordByte v 1
  | 0x09 => 4
  | 0x0A => 3 + wordByte v 2
  | _ => 1

/-- The command string of a table word. A CMD row has 8 bits: the string is as long as its length operands, zeros above
the given bits, imply. An ADV row has 48 bits, a frame header: the string is the DECODE command, from MAC
`00:00:00:00:00:00` and without RSSI, that carries the frame (log entry 3). -/
def tableCommand (nbits w : Nat) : Bytes :=
  if 48 ≤ nbits then encodeDecode ⟨Mac.zero, false, 0⟩ (leBytes (nbits / 8) w)
  else leBytes (impliedLength (w % 2 ^ nbits)) (w % 2 ^ nbits)

/-- The instruction the decoder reads from a word of the opcode table. -/
def decodeTableWord (nbits w : Nat) : Option Instr :=
  match decodeCommand (tableCommand nbits w) with
  | .ok i => some i
  | .error _ => none

end Sys2Proof
end

