-- ==== Sys2Proof/Machine/Cipher.lean ====
section
/-! DEFINITION. The AES-128 block cipher and counter mode (41_aes_ctr.md R150 to R165), and the command CTRCRYPT (R164).
The cipher is the spec's own from general knowledge (93_implementation_defined.md G1; log entry 8). -/

namespace Sys2Proof.Machine

/-! ### Bytes of a block -/

/-- The block whose byte `i` is `f i`. -/
def blockOf (f : Nat → Byte) : Block :=
  ⟨⟨f 0, f 1, f 2, f 3⟩, ⟨f 4, f 5, f 6, f 7⟩, ⟨f 8, f 9, f 10, f 11⟩, ⟨f 12, f 13, f 14, f 15⟩⟩

/-- Byte `i` of a block, for `i < 16`. -/
def blockByte (b : Block) (i : Nat) : Byte := b.toBytes.getD i 0

/-- The 16-byte key held by a byte string; `none` for any other length (41_aes_ctr.md R166). -/
def keyOfBytes (bs : Bytes) : Option Block := if bs.length = 16 then some (blockOf fun i => bs.getD i 0) else none

def xorColumn (x y : Column) : Column := ⟨x.a0 ^^^ y.a0, x.a1 ^^^ y.a1, x.a2 ^^^ y.a2, x.a3 ^^^ y.a3⟩

def mapColumn (f : Byte → Byte) (x : Column) : Column := ⟨f x.a0, f x.a1, f x.a2, f x.a3⟩

/-! ### Field arithmetic (R152) -/

/-- `xtime(a) = (a << 1) ^ 0x11B` if `a[7] = 1`, else `a << 1`, in 8 bits (41_aes_ctr.md R152). -/
def xtime (a : Byte) : Byte := if a.getLsbD 7 then (a <<< 1) ^^^ 0x1B else a <<< 1

/-- `xtime^i(a)`. -/
def xtimeIter : Nat → Byte → Byte
  | 0, a => a
  | i + 1, a => xtimeIter i (xtime a)

/-- `a • b = xor over i in 0..7 with b[i] = 1 of xtime^i(a)` (41_aes_ctr.md R152). -/
def gfMul (a b : Byte) : Byte :=
  (List.range 8).foldl (fun acc i => if b.getLsbD i then acc ^^^ xtimeIter i a else acc) 0

/-! ### The S-box (R153) -/

/-- Row `a >> 4` of the S-box table, its 16 bytes written as one numeral, column 0 the most significant byte. -/
def sboxRow : Nat → Nat
  | 0x0 => 0x637c777bf26b6fc53001672bfed7ab76
  | 0x1 => 0xca82c97dfa5947f0add4a2af9ca472c0
  | 0x2 => 0xb7fd9326363ff7cc34a5e5f171d83115
  | 0x3 => 0x04c723c31896059a071280e2eb27b275
  | 0x4 => 0x09832c1a1b6e5aa0523bd6b329e32f84
  | 0x5 => 0x53d100ed20fcb15b6acbbe394a4c58cf
  | 0x6 => 0xd0efaafb434d338545f9027f503c9fa8
  | 0x7 => 0x51a3408f929d38f5bcb6da2110fff3d2
  | 0x8 => 0xcd0c13ec5f974417c4a77e3d645d1973
  | 0x9 => 0x60814fdc222a908846eeb814de5e0bdb
  | 0xA => 0xe0323a0a4906245cc2d3ac629195e479
  | 0xB => 0xe7c8376d8dd54ea96c56f4ea657aae08
  | 0xC => 0xba78252e1ca6b4c6e8dd741f4bbd8b8a
  | 0xD => 0x703eb5664803f60e613557b986c11d9e
  | 0xE => 0xe1f8981169d98e949b1e87e9ce5528df
  | _ => 0x8ca1890dbfe6426841992d0fb054bb16

/-- `SBOX[a]`: row `a >> 4`, column `a & 15` (41_aes_ctr.md R153). -/
def sbox (a : Byte) : Byte := BitVec.ofNat 8 (sboxRow (a.toNat / 16) / 2 ^ (8 * (15 - a.toNat % 16)))

/-! ### The state transformations (R154) -/

def subBytes (s : Block) : Block := ⟨mapColumn sbox s.c0, mapColumn sbox s.c1, mapColumn sbox s.c2, mapColumn sbox s.c3⟩

/-- `s'[r,c] = s[r, (c + r) mod 4]`. -/
def shiftRows (s : Block) : Block :=
  ⟨⟨s.c0.a0, s.c1.a1, s.c2.a2, s.c3.a3⟩, ⟨s.c1.a0, s.c2.a1, s.c3.a2, s.c0.a3⟩,
   ⟨s.c2.a0, s.c3.a1, s.c0.a2, s.c1.a3⟩, ⟨s.c3.a0, s.c0.a1, s.c1.a2, s.c2.a3⟩⟩

/-- One column of `MixColumns`, with `02•a = xtime(a)` and `03•a = xtime(a) ^ a` (R152). -/
def mixColumn (x : Column) : Column :=
  ⟨xtime x.a0 ^^^ (xtime x.a1 ^^^ x.a1) ^^^ x.a2 ^^^ x.a3, x.a0 ^^^ xtime x.a1 ^^^ (xtime x.a2 ^^^ x.a2) ^^^ x.a3,
   x.a0 ^^^ x.a1 ^^^ xtime x.a2 ^^^ (xtime x.a3 ^^^ x.a3), (xtime x.a0 ^^^ x.a0) ^^^ x.a1 ^^^ x.a2 ^^^ xtime x.a3⟩

def mixColumns (s : Block) : Block := ⟨mixColumn s.c0, mixColumn s.c1, mixColumn s.c2, mixColumn s.c3⟩

def addRoundKey (rk s : Block) : Block :=
  ⟨xorColumn s.c0 rk.c0, xorColumn s.c1 rk.c1, xorColumn s.c2 rk.c2, xorColumn s.c3 rk.c3⟩

/-! ### Key expansion (R155) -/

/-- `RotWord([a0,a1,a2,a3]) = [a1,a2,a3,a0]`. -/
def rotWord (x : Column) : Column := ⟨x.a1, x.a2, x.a3, x.a0⟩

/-- `SubWord` applies `SBOX` to each byte. -/
def subWord (x : Column) : Column := mapColumn sbox x

/-- `RCON[1..10]`. -/
def rcon : Nat → Byte
  | 1 => 0x01
  | 2 => 0x02
  | 3 => 0x04
  | 4 => 0x08
  | 5 => 0x10
  | 6 => 0x20
  | 7 => 0x40
  | 8 => 0x80
  | 9 => 0x1B
  | 10 => 0x36
  | _ => 0

/-- Round key `j` from round key `j - 1`: the four words `w[4j] .. w[4j+3]` of R155 (log entry 9). -/
def nextRoundKey (j : Nat) (rk : Block) : Block :=
  let w0 := xorColumn rk.c0 (xorColumn (subWord (rotWord rk.c3)) ⟨rcon j, 0, 0, 0⟩)
  let w1 := xorColumn rk.c1 w0
  let w2 := xorColumn rk.c2 w1
  let w3 := xorColumn rk.c3 w2
  ⟨w0, w1, w2, w3⟩

/-- Round key `j` of a key (41_aes_ctr.md R155). -/
def roundKey (key : Block) : Nat → Block
  | 0 => key
  | j + 1 => nextRoundKey (j + 1) (roundKey key j)

/-! ### The cipher (R156) -/

/-- Rounds `j .. j + n - 1` of the nine rounds that have a `MixColumns`; `rk` is round key `j - 1`. Answers the state and
the last round key used. -/
def rounds : Nat → Nat → Block → Block → Block × Block
  | 0, _, rk, s => (rk, s)
  | n + 1, j, rk, s =>
    let rk' := nextRoundKey j rk
    rounds n (j + 1) rk' (addRoundKey rk' (mixColumns (shiftRows (subBytes s))))

/-- `E(key, in)` (41_aes_ctr.md R156): ten rounds, the last without `MixColumns`. -/
def encryptBlock (key input : Block) : Block :=
  let (rk9, s) := rounds 9 1 key (addRoundKey key input)
  addRoundKey (nextRoundKey 10 rk9) (shiftRows (subBytes s))

/-! ### Counter mode -/

/-- `CB(0)`: bytes 0 and 1 the counter, little-endian, bytes 2 to 15 zero (41_aes_ctr.md R160, 30_encoding.md R94). -/
def counterBlock0 (counter : BitVec 16) : Block :=
  ⟨⟨counter.extractLsb' 0 8, counter.extractLsb' 8 8, 0, 0⟩, ⟨0, 0, 0, 0⟩, ⟨0, 0, 0, 0⟩, ⟨0, 0, 0, 0⟩⟩

/-- The bytes as one little-endian integer, byte 0 least significant. -/
def leNat : Bytes → Nat
  | [] => 0
  | b :: bs => b.toNat + 256 * leNat bs

/-- `CB(j+1)` from `CB(j)`: plus 1 modulo `2^128`, as a big-endian or as a little-endian integer (41_aes_ctr.md R161). -/
def nextCounterBlock (inc : CtrInc) (cb : Block) : Block :=
  match inc with
  | .be128 => let n := leNat cb.toBytes.reverse + 1; blockOf fun i => BitVec.ofNat 8 (n / 2 ^ (8 * (15 - i)))
  | .le128 => let n := leNat cb.toBytes + 1; blockOf fun i => BitVec.ofNat 8 (n / 2 ^ (8 * i))

/-- `CB(j)` (41_aes_ctr.md R160, R161). -/
def counterBlock (inc : CtrInc) (counter : BitVec 16) : Nat → Block
  | 0 => counterBlock0 counter
  | j + 1 => nextCounterBlock inc (counterBlock inc counter j)

/-- The keystream of `n` blocks from a counter block on: the concatenated cipher outputs (00_scope.md R16). -/
def keystream (inc : CtrInc) (key : Block) : Nat → Block → Bytes
  | 0, _ => []
  | n + 1, cb => (encryptBlock key cb).toBytes ++ keystream inc key n (nextCounterBlock inc cb)

/-- `ctr(key, counter, data)` (41_aes_ctr.md R150, R162): the data XOR-ed with the keystream, which starts anew at `CB(0)`
with every call (R165). -/
def ctr (inc : CtrInc) (key : Block) (counter : BitVec 16) (data : Bytes) : Bytes :=
  List.zipWith (· ^^^ ·) data (keystream inc key ((data.length + 15) / 16) (counterBlock0 counter))

/-! ### CTRCRYPT -/

/-- CTRCRYPT (41_aes_ctr.md R164). -/
def execCtrcrypt (kbytes : Bytes) (counter : BitVec 16) (data : Bytes) (s : State) : Outcome :=
  s.accept fun s =>
    match keyOfBytes kbytes with
    | none => s.raise .cfgKeyLength
    | some key =>
      s.setRes fun r => { r with rDlen := lengthByte data, rData := ctr Config.params.ctrInc key counter data }

end Sys2Proof.Machine
end

