-- ==== Sys2Proof/Machine/System.lean ====
section
/-! DEFINITION. The system commands: RESET and KEYLOAD (45_host_commands.md R260, R262). -/

namespace Sys2Proof.Machine

/-- RESET (45_host_commands.md R260), the one command that runs whatever `FAULT` is. -/
def execReset (s : State) : Outcome := .next s.toReset

/-- Step 4 of KEYLOAD (45_host_commands.md R262): the slot takes the MAC and the key, its tracker starts unseen. -/
def State.provision (s : State) (i : Nat) (mac : Mac) (key : Block) : State :=
  (s.setSlot i { used := true, mac := mac, keyOk := true, key := key, seen := false, lastCtr := 0 }).setRes fun r =>
    { r with rMac := mac }

/-- KEYLOAD (45_host_commands.md R262): the key's length, then the MAC's presence, then the free slot. -/
def execKeyload (mac : Mac) (kbytes : Bytes) (s : State) : Outcome :=
  s.accept fun s =>
    match keyOfBytes kbytes with
    | none => s.raise .cfgKeyLength
    | some key =>
      if (lookup s.slots mac).isSome then s.raise .cfgKeyExists
      else
        match firstFree s.slots with
        | none => s.raise .cfgTableFull
        | some i => s.provision i mac key

end Sys2Proof.Machine
end

