-- ==== Sys2Proof/Machine/Header.lean ====
section
/-! DEFINITION. The advertisement header parser and the device-type dispatcher: PARSEHDR and CLASSIFY
(42_header_dispatch.md R180 to R187). -/

namespace Sys2Proof.Machine

/-- A parsed frame (42_header_dispatch.md R180, 30_encoding.md R93). -/
structure Frame where
  marker : Byte
  modelId : BitVec 16
  mode : Byte
  counter : BitVec 16
  ciphertext : Bytes
deriving DecidableEq, Repr

/-- What `parse_header` answers (42_header_dispatch.md R180). -/
inductive Header where
  | tooShort
  | unsupportedRecordType
  | frame (f : Frame)
deriving DecidableEq, Repr

/-- `parse_header(raw)`: the length test first, then the marker (42_header_dispatch.md R180). -/
def parseHeader (raw : Bytes) : Header :=
  match raw with
  | marker :: m0 :: m1 :: mode :: c0 :: c1 :: ct =>
    if marker ≠ 0x10 then .unsupportedRecordType else .frame ⟨marker, le16 m0 m1, mode, le16 c0 c1, ct⟩
  | _ => .tooShort

/-- The known-model table, consulted for modes `0xA0` and `0xA3` (30_encoding.md R101). -/
def classifyModel (model : BitVec 16) : DeviceKind :=
  if model = 0x6002 then .supported .solarCharger
  else if model = 0x8302 then .supported .batteryMonitor
  else if model = 0x2E00 then .supported .acCharger
  else .unsupported

/-- `classify(model_id, mode)` (42_header_dispatch.md R185). -/
def classify (model : BitVec 16) (mode : Byte) : DeviceKind :=
  if mode = 0x02 then .supported .batteryMonitor
  else if mode = 0x01 then .supported .solarCharger
  else if mode = 0x08 then .supported .acCharger
  else if mode = 0x0D then .unsupported
  else if mode = 0xA0 ∨ mode = 0xA3 then classifyModel model
  else .unsupported

/-- The header registers of a parsed frame: `R_MODEL`, `R_MODE`, `R_CTR`, `R_CTLEN` (10_state.md R36). -/
def State.recordHeader (s : State) (f : Frame) : State :=
  s.setRes fun r =>
    { r with rModel := f.modelId, rMode := f.mode, rCtr := f.counter, rCtlen := lengthByte f.ciphertext }

/-- PARSEHDR (42_header_dispatch.md R181). -/
def execParsehdr (raw : Bytes) (s : State) : Outcome :=
  s.accept fun s =>
    match parseHeader raw with
    | .tooShort => s.raise .skipTooShort
    | .unsupportedRecordType => s.raise .skipRecordType
    | .frame f => s.recordHeader f

/-- CLASSIFY (42_header_dispatch.md R186): an unsupported answer is a result, not a skip. -/
def execClassify (model : BitVec 16) (mode : Byte) (s : State) : Outcome :=
  s.accept fun s => s.setRes fun r => { r with rKind := kindCode (classify model mode), rModel := model, rMode := mode }

end Sys2Proof.Machine
end

