-- ==== Sys2Proof/Machine/Flags.lean ====
section
/-! DEFINITION. How flags are computed: the sentinels and the field flags `F_RD`, `F_V` (43_record_decoders.md R201, R202,
R206, R216), the plausibility flag `R_PLAUS` (44_offset_search_decode.md R240) and the duplicate test (R246). -/

namespace Sys2Proof.Machine

/-! ### Sentinels: the literals of 43_record_decoders.md R202, each tested on the raw unsigned pattern -/

def bmVoltageSentinel : Nat := 0x7FFF
def bmCurrentSentinel : Nat := 0x3FFFFF
def bmSocSentinel : Nat := 0x3FF
/-- Aux value of type 0, DC channel 2 (R206). -/
def bmAuxSignedSentinel : Nat := 0x7FFF
/-- Aux value of types 1 and 2, mid-point and temperature (R206). -/
def bmAuxUnsignedSentinel : Nat := 0xFFFF
def solarVoltageSentinel : Nat := 0x7FFF
def solarCurrentSentinel : Nat := 0x7FFF
/-- `pv_power`: treated as 0, not as unavailable (R215). -/
def solarPvSentinel : Nat := 0xFFFF
def acVoltageSentinel : Nat := 0x1FFF
def acCurrentSentinel : Nat := 0x7FF

/-! ### Field registers -/

/-- Writing a field register (43_record_decoders.md R201) from the raw pattern of its wire field, `none` when the field was
not present: unavailable when the pattern is the sentinel, else the given value. -/
def writeField (sentinel : Option Nat) (value : Nat → Int) : Option Nat → FieldReg
  | none => FieldReg.zero
  | some r => if sentinel = some r then ⟨true, false, 0⟩ else ⟨true, true, toReg32 (value r)⟩

/-- An unsigned field's value. -/
def unsignedValue (r : Nat) : Int := r

/-- 273.15 K in units of 0.01 K (43_record_decoders.md R206). -/
def kelvinOffset : Int := 27315

/-- The aux value's register from the raw aux pattern and the raw type (43_record_decoders.md R206): unavailable when the
type was not read, is 3 (none), or the pattern is the type's sentinel. -/
def writeAux (aux type : Option Nat) : FieldReg :=
  match aux, type with
  | none, _ => FieldReg.zero
  | some r, some 0 => writeField (some bmAuxSignedSentinel) (sext 16) (some r)
  | some r, some 1 => writeField (some bmAuxUnsignedSentinel) unsignedValue (some r)
  | some r, some 2 => writeField (some bmAuxUnsignedSentinel) (fun r => (r : Int) - kelvinOffset) (some r)
  | some _, _ => ⟨true, false, 0⟩

/-- The Solar Charger's derived power, registers 7 and 8, from the registers of voltage, current and `pv_power`
(43_record_decoders.md R216): the field when nonzero, else voltage × current when both are available, else none. -/
def derivedPower (volt cur pv : FieldReg) : FieldReg × FieldReg :=
  if pv.v = true ∧ pv.val ≠ 0 then (⟨false, true, toReg32 (pv.val.toInt * 1000)⟩, ⟨false, true, 1⟩)
  else if volt.v = true ∧ cur.v = true then (⟨false, true, toReg32 (volt.val.toInt * cur.val.toInt)⟩, ⟨false, true, 2⟩)
  else (⟨false, false, 0⟩, ⟨false, true, 0⟩)

/-! ### Plausibility and duplicates -/

/-- The register of the voltage that the plausibility test looks at (44_offset_search_decode.md R240). -/
def voltageReg : RecordKind → Fields → FieldReg
  | .batteryMonitor, f => f[1]
  | .solarCharger, f => f[2]
  | .acCharger, f => f[2]

/-- The register of the current that the plausibility test looks at (44_offset_search_decode.md R240). -/
def currentReg : RecordKind → Fields → FieldReg
  | .batteryMonitor, f => f[5]
  | .solarCharger, f => f[3]
  | .acCharger, f => f[5]

/-- The current limit in the register's unit: mA for a Battery Monitor, dA for the chargers (R240). -/
def currentLimit (p : Params) : RecordKind → Nat
  | .batteryMonitor => p.iMaxA * 1000
  | .solarCharger => p.iMaxA * 10
  | .acCharger => p.iMaxA * 10

/-- `plausible(kind, reading)` (44_offset_search_decode.md R240): both available, the voltage within its inclusive bounds,
the current's magnitude at most the limit, on the exact integers. -/
def plausible (p : Params) (kind : RecordKind) (f : Fields) : Bool :=
  (voltageReg kind f).v && (currentReg kind f).v &&
    decide ((p.vMinCv : Int) ≤ (voltageReg kind f).val.toInt) && decide ((voltageReg kind f).val.toInt ≤ p.vMaxCv) &&
    decide ((currentReg kind f).val.toInt.natAbs ≤ currentLimit p kind)

/-- The duplicate test: `SLOT[s].seen = 1 and SLOT[s].last_ctr = counter` (44_offset_search_decode.md R246). -/
def isDuplicate (sl : Slot) (counter : BitVec 16) : Bool := sl.seen && decide (sl.lastCtr = counter)

end Sys2Proof.Machine
end

