-- ==== Sys2Proof/Machine/Records.lean ====
section
/-! DEFINITION. The record decoders, Battery Monitor, Solar Charger and AC Charger, and the command DECREC
(43_record_decoders.md R200 to R230). -/

namespace Sys2Proof.Machine

/-- The fields from the cursor on, in strict order, stopping at the first that does not fit (43_record_decoders.md R200).
An element is the raw pattern of a present field, `none` of an absent one. -/
def readFrom (pt : Bytes) : Nat → List Nat → List (Option Nat)
  | _, [] => []
  | cur, w :: ws =>
    if canRead pt.length cur w then some (bitRead pt cur w) :: readFrom pt (cur + w) ws
    else none :: ws.map fun _ => none

/-- `read_fields(pt, skip, w)` (43_record_decoders.md R200): nothing is read when the skip does not fit. -/
def readFields (pt : Bytes) (skip : Nat) (ws : List Nat) : List (Option Nat) :=
  if canRead pt.length 0 skip then readFrom pt skip ws else ws.map fun _ => none

/-- Wire field `j` of a record: its raw pattern if present. -/
def rawField (raw : List (Option Nat)) (j : Nat) : Option Nat := raw.getD j none

/-- The layout of REC.BM: field widths in wire order (30_encoding.md R95). -/
def bmWidths : List Nat := [16, 16, 16, 16, 2, 22, 20, 10]

/-- The layout of REC.SOLAR (30_encoding.md R96). -/
def solarWidths : List Nat := [8, 8, 16, 16, 16, 16, 9]

/-- The layout of REC.AC in either bank order (30_encoding.md R97). -/
def acWidths : BankOrder → List Nat
  | .grouped => [8, 8, 13, 13, 13, 11, 11, 11, 7, 9]
  | .interleaved => [8, 8, 13, 11, 13, 11, 13, 11, 7, 9]

/-- The wire position of AC register `k` (43_record_decoders.md R220): under `INTERLEAVED` wire fields 2 to 7 are
V1, I1, V2, I2, V3, I3, registers 2, 5, 3, 6, 4, 7. -/
def acPosition : BankOrder → Nat → Nat
  | .interleaved, 3 => 4
  | .interleaved, 4 => 6
  | .interleaved, 5 => 3
  | .interleaved, 6 => 5
  | _, k => k

/-- `decode_bm(pt)` (43_record_decoders.md R203 to R210). -/
def decodeBm (skip : Nat) (pt : Bytes) : Fields :=
  let raw := rawField (readFields pt skip bmWidths)
  #v[writeField none unsignedValue (raw 0), writeField (some bmVoltageSentinel) unsignedValue (raw 1),
     writeField none unsignedValue (raw 2), writeAux (raw 3) (raw 4), writeField none unsignedValue (raw 4),
     writeField (some bmCurrentSentinel) (sext 22) (raw 5), writeField none (fun r => -(r : Int)) (raw 6),
     writeField (some bmSocSentinel) unsignedValue (raw 7), FieldReg.zero, FieldReg.zero, FieldReg.zero]

/-- `decode_solar(pt)` (43_record_decoders.md R212 to R217). -/
def decodeSolar (pt : Bytes) : Fields :=
  let raw := rawField (readFields pt 0 solarWidths)
  let volt := writeField (some solarVoltageSentinel) (sext 16) (raw 2)
  let cur := writeField (some solarCurrentSentinel) (sext 16) (raw 3)
  let pv := writeField none (fun r => if r = solarPvSentinel then 0 else (r : Int)) (raw 5)
  let power := derivedPower volt cur pv
  #v[writeField none unsignedValue (raw 0), writeField none unsignedValue (raw 1), volt, cur,
     writeField none unsignedValue (raw 4), pv, writeField none unsignedValue (raw 6), power.1, power.2,
     FieldReg.zero, FieldReg.zero]

/-- `decode_ac(pt)` (43_record_decoders.md R220 to R222). -/
def decodeAc (order : BankOrder) (pt : Bytes) : Fields :=
  let raw := fun k => rawField (readFields pt 0 (acWidths order)) (acPosition order k)
  #v[writeField none unsignedValue (raw 0), writeField none unsignedValue (raw 1),
     writeField (some acVoltageSentinel) unsignedValue (raw 2), writeField (some acVoltageSentinel) unsignedValue (raw 3),
     writeField (some acVoltageSentinel) unsignedValue (raw 4), writeField (some acCurrentSentinel) unsignedValue (raw 5),
     writeField (some acCurrentSentinel) unsignedValue (raw 6), writeField (some acCurrentSentinel) unsignedValue (raw 7),
     writeField none unsignedValue (raw 8), writeField none unsignedValue (raw 9), FieldReg.zero]

/-- The decoder a kind selects (42_header_dispatch.md R187). -/
def decodeRecord (p : Params) : RecordKind → Bytes → Fields
  | .batteryMonitor, pt => decodeBm p.subhdrSkipBits pt
  | .solarCharger, pt => decodeSolar pt
  | .acCharger, pt => decodeAc p.acBankOrder pt

/-- DECREC (43_record_decoders.md R230). -/
def execDecrec (kind : RecordKind) (plaintext : Bytes) (s : State) : Outcome :=
  s.accept fun s =>
    let fields := decodeRecord Config.params kind plaintext
    s.emptyReader.setRes fun r =>
      { r with rKind := kindCode (.supported kind), fields := fields, rPlaus := plausible Config.params kind fields }

end Sys2Proof.Machine
end

