-- ==== Sys2Proof/Machine/Transaction.lean ====
section
/-! DEFINITION. The offset search and the DECODE transaction (44_offset_search_decode.md R240 to R252): the command DECODE,
and the twelve ADV rows, each what a DECODE of such a frame does (42_header_dispatch.md R189). -/

namespace Sys2Proof.Machine

/-! ### The offset search -/

/-- What the search delivers: the reading, its offset, and whether it passed the plausibility test (R241). -/
structure SearchResult where
  reading : Fields
  offset : Nat
  plaus : Bool
deriving DecidableEq, Repr

/-- The reading at offset `o`: `ct[o..]` decrypted by a fresh call of `ctr`, then decoded (R241, 41_aes_ctr.md R165). -/
def readingAt (p : Params) (kind : RecordKind) (key : Block) (counter : BitVec 16) (ct : Bytes) (o : Nat) : Fields :=
  decodeRecord p kind (ctr p.ctrInc key counter (ct.drop o))

/-- The first plausible of the `n` offsets from `o` on, in increasing order (R241). -/
def firstPlausible (p : Params) (kind : RecordKind) (key : Block) (counter : BitVec 16) (ct : Bytes) :
    Nat → Nat → Option SearchResult
  | 0, _ => none
  | n + 1, o =>
    let rd := readingAt p kind key counter ct o
    if plausible p kind rd then some ⟨rd, o, true⟩ else firstPlausible p kind key counter ct n (o + 1)

/-- The offsets tried: `min(7, L)` (R241). -/
def offsetsTried (ct : Bytes) : Nat := min 7 ct.length

/-- `search(kind, key, counter, ct)` (R241): the first plausible offset; else offset 0's reading, which for an empty
ciphertext is the decode of the empty plaintext (R242). -/
def search (p : Params) (kind : RecordKind) (key : Block) (counter : BitVec 16) (ct : Bytes) : SearchResult :=
  match firstPlausible p kind key counter ct (offsetsTried ct) 0 with
  | some r => r
  | none => ⟨if ct = [] then decodeRecord p kind [] else readingAt p kind key counter ct 0, 0, false⟩

/-! ### The stages of DECODE (R247) -/

/-- Stage 1, after the clearing: the reader emptied, the MAC and the RSSI recorded. -/
def State.beginDecode (s : State) (env : Envelope) : State :=
  s.emptyReader.setRes fun r =>
    { r with rMac := env.mac, rRssiV := env.rssiValid, rRssi := if env.rssiValid then env.rssi else 0 }

/-- Stage 8: the reading into the field registers, the tracker updated, the reading emitted. -/
def State.deliver (s : State) (slotIx : Nat) (counter : BitVec 16) (found : SearchResult) : State :=
  (s.setSlot slotIx { s.slot slotIx with seen := true, lastCtr := counter }).setRes fun r =>
    { r with fields := found.reading, rOffset := BitVec.ofNat 3 found.offset, rPlaus := found.plaus, rEmit := true }

/-- Stages 5 to 8, for a frame of a supported kind: key lookup (R245), duplicate test (R246), search, delivery. -/
def State.decryptAndDeliver (s : State) (kind : RecordKind) (mac : Mac) (f : Frame) : State :=
  match lookup s.slots mac with
  | none => s.raise .skipNoKey
  | some i =>
    if !(s.slot i).keyOk then s.raise .skipNoKey
    else if isDuplicate (s.slot i) f.counter then s.raise .skipDuplicate
    else s.deliver i f.counter (search Config.params kind (s.slot i).key f.counter f.ciphertext)

/-- Stages 4 to 8, from the dispatcher's answer on. -/
def State.dispatchFrame (s : State) (kind : DeviceKind) (mac : Mac) (f : Frame) : State :=
  let s := s.setRes fun r => { r with rKind := kindCode kind }
  match kind with
  | .unsupported => s.raise .skipUnsupported
  | .supported k => s.decryptAndDeliver k mac f

/-- DECODE (R247). -/
def execDecode (env : Envelope) (raw : Bytes) (s : State) : Outcome :=
  s.accept fun s =>
    let s := s.beginDecode env
    if Config.params.bufMax < raw.length then s.raise .skipTooLong
    else
      match parseHeader raw with
      | .tooShort => s.raise .skipTooShort
      | .unsupportedRecordType => s.raise .skipRecordType
      | .frame f => (s.recordHeader f).dispatchFrame (classify f.modelId f.mode) env.mac f

/-! ### The ADV rows (R189) -/

/-- A DECODE whose frame has marker `0x10` and selects a row of the given kind. -/
def State.acceptFrame (s : State) (env : Envelope) (kind : DeviceKind) (model : BitVec 16) (mode : Byte)
    (counter : BitVec 16) (ct : Bytes) : Outcome :=
  s.accept fun s =>
    let f : Frame := ⟨0x10, model, mode, counter, ct⟩
    ((s.beginDecode env).recordHeader f).dispatchFrame kind env.mac f

/-- ADV.SOLAR: search with `decode_solar`. -/
def execAdvSolar (env : Envelope) (model counter : BitVec 16) (ct : Bytes) (s : State) : Outcome :=
  s.acceptFrame env (.supported .solarCharger) model 0x01 counter ct

/-- ADV.BM: search with `decode_bm`. -/
def execAdvBm (env : Envelope) (model counter : BitVec 16) (ct : Bytes) (s : State) : Outcome :=
  s.acceptFrame env (.supported .batteryMonitor) model 0x02 counter ct

/-- ADV.AC: search with `decode_ac`. -/
def execAdvAc (env : Envelope) (model counter : BitVec 16) (ct : Bytes) (s : State) : Outcome :=
  s.acceptFrame env (.supported .acCharger) model 0x08 counter ct

/-- ADV.DCEM: `SKIP_UNSUPPORTED`. -/
def execAdvDcem (env : Envelope) (model counter : BitVec 16) (ct : Bytes) (s : State) : Outcome :=
  s.acceptFrame env .unsupported model 0x0D counter ct

/-- ADV.A0.SOLAR: search with `decode_solar`. -/
def execAdvA0Solar (env : Envelope) (counter : BitVec 16) (ct : Bytes) (s : State) : Outcome :=
  s.acceptFrame env (.supported .solarCharger) 0x6002 0xA0 counter ct

/-- ADV.A0.BM: search with `decode_bm`. -/
def execAdvA0Bm (env : Envelope) (counter : BitVec 16) (ct : Bytes) (s : State) : Outcome :=
  s.acceptFrame env (.supported .batteryMonitor) 0x8302 0xA0 counter ct

/-- ADV.A0.AC: search with `decode_ac`. -/
def execAdvA0Ac (env : Envelope) (counter : BitVec 16) (ct : Bytes) (s : State) : Outcome :=
  s.acceptFrame env (.supported .acCharger) 0x2E00 0xA0 counter ct

/-- ADV.A3.SOLAR: search with `decode_solar`. -/
def execAdvA3Solar (env : Envelope) (counter : BitVec 16) (ct : Bytes) (s : State) : Outcome :=
  s.acceptFrame env (.supported .solarCharger) 0x6002 0xA3 counter ct

/-- ADV.A3.BM: search with `decode_bm`. -/
def execAdvA3Bm (env : Envelope) (counter : BitVec 16) (ct : Bytes) (s : State) : Outcome :=
  s.acceptFrame env (.supported .batteryMonitor) 0x8302 0xA3 counter ct

/-- ADV.A3.AC: search with `decode_ac`. -/
def execAdvA3Ac (env : Envelope) (counter : BitVec 16) (ct : Bytes) (s : State) : Outcome :=
  s.acceptFrame env (.supported .acCharger) 0x2E00 0xA3 counter ct

/-- ADV.OTHERMODE: `SKIP_UNSUPPORTED`. -/
def execAdvOthermode (env : Envelope) (model : BitVec 16) (mode : Byte) (counter : BitVec 16) (ct : Bytes) (s : State) :
    Outcome :=
  s.acceptFrame env .unsupported model mode counter ct

/-- ADV.OTHERMARKER: `SKIP_RECORD_TYPE`; nothing of the frame is recorded (60_exceptions.md R282). -/
def execAdvOthermarker (env : Envelope) (_marker : Byte) (_model : BitVec 16) (_mode : Byte) (_counter : BitVec 16)
    (_ct : Bytes) (s : State) : Outcome :=
  s.accept fun s => (s.beginDecode env).raise .skipRecordType

end Sys2Proof.Machine
end

