-- ==== Sys2Proof/Machine/Dispatch.lean ====
section
/-! DEFINITION. What each instruction does: one arm per constructor, one meaning per arm. -/

namespace Sys2Proof.Machine

def exec (i : Instr) (s : State) : Host.Outcome State Fault Refusal :=
  match i with
  | .reset => Sys2Proof.Machine.execReset s
  | .keyload mac kbytes => Sys2Proof.Machine.execKeyload mac kbytes s
  | .decode env raw => Sys2Proof.Machine.execDecode env raw s
  | .ctrcrypt kbytes counter data => Sys2Proof.Machine.execCtrcrypt kbytes counter data s
  | .bropen bytes => Sys2Proof.Machine.execBropen bytes s
  | .brcan n => Sys2Proof.Machine.execBrcan n s
  | .brreadu n => Sys2Proof.Machine.execBrreadu n s
  | .brreads n => Sys2Proof.Machine.execBrreads n s
  | .parsehdr raw => Sys2Proof.Machine.execParsehdr raw s
  | .classify model mode => Sys2Proof.Machine.execClassify model mode s
  | .decrec kind plaintext => Sys2Proof.Machine.execDecrec kind plaintext s
  | .advSolar env model counter ct => Sys2Proof.Machine.execAdvSolar env model counter ct s
  | .advBm env model counter ct => Sys2Proof.Machine.execAdvBm env model counter ct s
  | .advAc env model counter ct => Sys2Proof.Machine.execAdvAc env model counter ct s
  | .advDcem env model counter ct => Sys2Proof.Machine.execAdvDcem env model counter ct s
  | .advA0Solar env counter ct => Sys2Proof.Machine.execAdvA0Solar env counter ct s
  | .advA0Bm env counter ct => Sys2Proof.Machine.execAdvA0Bm env counter ct s
  | .advA0Ac env counter ct => Sys2Proof.Machine.execAdvA0Ac env counter ct s
  | .advA3Solar env counter ct => Sys2Proof.Machine.execAdvA3Solar env counter ct s
  | .advA3Bm env counter ct => Sys2Proof.Machine.execAdvA3Bm env counter ct s
  | .advA3Ac env counter ct => Sys2Proof.Machine.execAdvA3Ac env counter ct s
  | .advOthermode env model mode counter ct => Sys2Proof.Machine.execAdvOthermode env model mode counter ct s
  | .advOthermarker env marker model mode counter ct => Sys2Proof.Machine.execAdvOthermarker env marker model mode counter ct s

end Sys2Proof.Machine
end

