-- ==== Sys2Proof/Machine/Fetch.lean ====
section
/-! DEFINITION. Taking a command from the command port, and issuing one (45_host_commands.md R265, 20_memory.md R70, R73;
log entry 1). -/

namespace Sys2Proof.Machine

/-- The command the block takes next, and the state without it; `none` when the host has issued none. -/
def State.fetch (s : State) : Option (Bytes × State) :=
  match s.port with
  | [] => none
  | cmd :: rest => some (cmd, { s with port := rest })

/-- The host issues a command that the block takes next. -/
def State.issueFirst (s : State) (cmd : Bytes) : State := { s with port := cmd :: s.port }

end Sys2Proof.Machine
end

