-- ==== Sys2Proof/Machine/Step.lean ====
section
/-! DEFINITION. One step of the block: one command (45_host_commands.md R265). -/

namespace Sys2Proof.Machine

/-- One step (45_host_commands.md R265): take the next command and run it, or answer it as malformed. With no command at
the port nothing takes a step (00_scope.md R8): the state stays (DEDUCED, log entry 2). -/
def step (s : State) : Host.Outcome State Fault Refusal :=
  match s.fetch with
  | none => .next s
  | some (cmd, s') =>
    match decodeCommand cmd with
    | .ok i => exec i s'
    | .error _ => execMalformed s'

/-- `s` with the command of an opcode-table word issued at the front of the port, so that the next step runs it. -/
def State.withFetchWord (s : State) (nbits w : Nat) : State := s.issueFirst (tableCommand nbits w)

end Sys2Proof.Machine
end

