-- ==== Sys2Proof/Safety.lean ====
section
/-! DEFINITION. What a good state of the block is: the invariant that every step keeps, in the words of 10_state.md. Each
clause is a rule's own invariant or follows from the rules that write the element. -/

namespace Sys2Proof.Machine

/-- The block accepts commands (60_exceptions.md R290). -/
abbrev State.usable (s : State) : Prop := s.fault = false

/-- The slot table: `N_SLOTS` slots; an unused slot is all 0 (70_reset_and_hazards.md R320); a used slot has a key
(44_offset_search_decode.md R245); a slot that has emitted nothing has `last_ctr` 0 (10_state.md R27, 45_host_commands.md
R262); no MAC is in two used slots (10_state.md R25). -/
abbrev SlotsWf (slots : List Slot) : Prop :=
  slots.length = Config.params.nSlots ∧
    (∀ sl ∈ slots, (sl.used = false → sl = Slot.empty) ∧ (sl.used = true → sl.keyOk = true) ∧
      (sl.seen = false → sl.lastCtr = 0)) ∧
    slots.Pairwise fun a b => a.used = true → b.used = true → a.mac ≠ b.mac

/-- The bit reader (10_state.md R29, R30): `BR_LEN` is the buffer's length, at most `BUF_MAX`, and
`0 <= BR_CUR <= 8*BR_LEN`. -/
abbrev State.ReaderWf (s : State) : Prop :=
  s.brLen = s.brBuf.length ∧ s.brLen ≤ Config.params.bufMax ∧ s.brCur ≤ 8 * s.brLen

/-- One field register (10_state.md R38): an unavailable field is 0, and an available field was read, unless it is one of
the Solar Charger's derived registers 7 and 8 (R42). -/
abbrev FieldWf (kind : BitVec 2) (k : Nat) (f : FieldReg) : Prop :=
  (f.v = false → f.val = 0) ∧ (f.v = true → f.rd = true ∨ (kind = 2 ∧ (k = 7 ∨ k = 8)))

/-- The result registers: `R_STATUS` is a code that 60_exceptions.md R280 says can appear; a reading is emitted with status
OK and a supported kind (10_state.md R33, R34); `R_RSSI` is 0 when not valid (R35, 44_offset_search_decode.md R247);
`R_OFFSET` is `0..6` (R37); `R_DLEN` is the length of `R_DATA` (R40); the field registers are as R38 says. -/
abbrev ResultsWf (r : Results) : Prop :=
  r.rStatus ∈ ([0x00, 0x01, 0x02, 0x03, 0x04, 0x05, 0x06, 0x10, 0x11, 0x12, 0x13, 0x20, 0x21, 0x2F] : List (BitVec 8)) ∧
    (r.rEmit = true → r.rStatus = 0x00 ∧ r.rKind ≠ 0) ∧ (r.rRssiV = false → r.rRssi = 0) ∧ r.rOffset ≠ 7 ∧
    r.rDlen.toNat = r.rData.length ∧ ∀ k : Fin 11, FieldWf r.rKind k r.fields[k]

/-- The fault register (10_state.md R28): `FAULT_CODE` is 0 until a sticky fault, and then that fault's code. -/
abbrev State.FaultWf (s : State) : Prop :=
  (s.fault = false → s.faultCode = 0) ∧ (s.fault = true → s.faultCode = 0x20 ∨ s.faultCode = 0x21)

/-- A faulted block shows nothing but its status: the command that faulted had cleared the result registers, and since then
only `R_STATUS` was written (60_exceptions.md R289, R290). -/
abbrev State.FaultedShowsStatus (s : State) : Prop :=
  s.fault = true → s.res = { Results.zero with rStatus := s.res.rStatus }

/-- The invariant of the block. -/
structure State.Inv (s : State) : Prop where
  slots : SlotsWf s.slots
  reader : s.ReaderWf
  results : ResultsWf s.res
  fault : s.FaultWf
  faulted : s.FaultedShowsStatus

end Sys2Proof.Machine
end

