-- ==== Sys2Proof/WellFormed.lean ====
section
/-! DEFINITION. Which instructions have an encoding: the operand checks of 30_encoding.md R91, R92, and for an ADV row the
condition under which a frame selects it (R109). What the types already fix (a 6-byte MAC, a kind of 1 to 3) needs no check. -/

namespace Sys2Proof

/-- A byte string whose length fits its 1-byte length operand (30_encoding.md R91). -/
def fitsLengthByte (b : Bytes) : Bool := decide (b.length ≤ 255)

/-- A byte-string operand bounded by `BUF_MAX` (30_encoding.md R92). -/
def fitsBuffer (b : Bytes) : Bool := decide (b.length ≤ Config.params.bufMax)

/-- The frame of an ADV row fits the frame buffer: 6 header bytes and the ciphertext (30_encoding.md R93, R103). -/
def frameFits (ciphertext : Bytes) : Bool := decide (6 + ciphertext.length ≤ Config.params.bufMax)

/-- A frame with marker `0x10` selects an ADV row other than ADV.OTHERMODE (30_encoding.md R109; the `condition` of that
row in the opcode table). -/
def namedMode (model : BitVec 16) (mode : Byte) : Bool :=
  (mode == 0x01 || mode == 0x02 || mode == 0x08 || mode == 0x0D) ||
    ((mode == 0xA0 || mode == 0xA3) && (model == 0x6002 || model == 0x8302 || model == 0x2E00))

/-- The instruction has an encoding, and an ADV instruction's frame selects its row. -/
def Instr.wf : Instr → Bool
  | .reset => true
  | .keyload _ kbytes => fitsLengthByte kbytes
  | .decode _ raw => fitsLengthByte raw
  | .ctrcrypt kbytes _ data => fitsLengthByte kbytes && fitsBuffer data
  | .bropen bytes => fitsBuffer bytes
  | .brcan _ => true
  | .brreadu _ => true
  | .brreads _ => true
  | .parsehdr raw => fitsBuffer raw
  | .classify _ _ => true
  | .decrec _ plaintext => fitsBuffer plaintext
  | .advSolar _ _ _ ct => frameFits ct
  | .advBm _ _ _ ct => frameFits ct
  | .advAc _ _ _ ct => frameFits ct
  | .advDcem _ _ _ ct => frameFits ct
  | .advA0Solar _ _ ct => frameFits ct
  | .advA0Bm _ _ ct => frameFits ct
  | .advA0Ac _ _ ct => frameFits ct
  | .advA3Solar _ _ ct => frameFits ct
  | .advA3Bm _ _ ct => frameFits ct
  | .advA3Ac _ _ ct => frameFits ct
  | .advOthermode _ model mode _ ct => frameFits ct && !namedMode model mode
  | .advOthermarker _ marker _ _ _ ct => frameFits ct && !(marker == 0x10)

end Sys2Proof
end

