-- ==== Sys2Proof/Certificates/Slice0/Obligations.lean ====
section
/-! DEFINITION. The statements for the provers. Each says in its docstring which rules of spec/ it formalises. The helper
definitions of `Sys2Proof.Claims` write the spec's own formulas and tables again, apart from the machine's definitions, so
that a statement does not repeat the definition it is about. -/

open Sys2Proof Sys2Proof.Machine

namespace Sys2Proof.Claims

/-- Byte `i` of a byte string as a number (00_scope.md R10). -/
def byteNat (b : Bytes) (i : Nat) : Nat := (b.getD i 0).toNat

/-- `le16(b, i)` as a number (00_scope.md R10). -/
def le16Nat (b : Bytes) (i : Nat) : Nat := byteNat b i + 256 * byteNat b (i + 1)

/-- Bit `p` of a byte string: bit `p mod 8` of byte `p div 8`, bit 0 the least significant (20_memory.md R61). -/
def bitOf (b : Bytes) (p : Nat) : Nat := ((b.getD (p / 8) 0).getLsbD (p % 8)).toNat

/-- `sum over i < n of bit(b, c+i) << i` (00_scope.md R12, 40_bitreader.md R133 step 3). -/
def fieldSum (b : Bytes) (c n : Nat) : Nat := ((List.range n).map fun i => bitOf b (c + i) * 2 ^ i).sum

/-- The field of width `w` at bit `pos` of a plaintext, if its bits are there (30_encoding.md R95 to R97, R103). -/
def fieldAt (pt : Bytes) (pos w : Nat) : Option Nat := if pos + w ≤ 8 * pt.length then some (fieldSum pt pos w) else none

/-- Sixteen bytes written as one numeral, byte 0 the most significant, as the spec writes blocks. -/
def blockOfNat (n : Nat) : Block := blockOf fun i => BitVec.ofNat 8 (n / 2 ^ (8 * (15 - i)))

/-- The total length that a command's own length operands imply (30_encoding.md R91, third column). -/
def impliedTotal (bs : Bytes) : Nat :=
  match byteNat bs 0 with
  | 0x00 => 1
  | 0x01 => 8 + byteNat bs 7
  | 0x02 => 10 + byteNat bs 9
  | 0x03 => 5 + byteNat bs 1 + byteNat bs (4 + byteNat bs 1)
  | 0x04 => 2 + byteNat bs 1
  | 0x05 => 2
  | 0x06 => 2
  | 0x07 => 2
  | 0x08 => 2 + byteNat bs 1
  | 0x09 => 4
  | 0x0A => 3 + byteNat bs 2
  | _ => 0

/-- A malformed command, clause by clause of 30_encoding.md R92; an empty string is malformed (45_host_commands.md R265). -/
def Malformed (bs : Bytes) : Prop :=
  bs = [] ∨ 0x0B ≤ byteNat bs 0 ∨ bs.length ≠ impliedTotal bs ∨ (byteNat bs 0 = 0x02 ∧ byteNat bs 7 / 2 ≠ 0) ∨
    (byteNat bs 0 = 0x0A ∧ (byteNat bs 1 = 0 ∨ 3 < byteNat bs 1)) ∨ (byteNat bs 0 = 0x03 ∧ 31 < byteNat bs (4 + byteNat bs 1)) ∨
    ((byteNat bs 0 = 0x04 ∨ byteNat bs 0 = 0x08) ∧ 31 < byteNat bs 1) ∨ (byteNat bs 0 = 0x0A ∧ 31 < byteNat bs 2)

/-- The ten ADV rows of spec/opcode_table.json other than the two catch-all rows: `match` and `mask`. -/
def specificRows : List (Bytes × Bytes) :=
  [([0x10, 0, 0, 0x01, 0, 0], [0xFF, 0, 0, 0xFF, 0, 0]), ([0x10, 0, 0, 0x02, 0, 0], [0xFF, 0, 0, 0xFF, 0, 0]),
   ([0x10, 0, 0, 0x08, 0, 0], [0xFF, 0, 0, 0xFF, 0, 0]), ([0x10, 0, 0, 0x0D, 0, 0], [0xFF, 0, 0, 0xFF, 0, 0]),
   ([0x10, 0x02, 0x60, 0xA0, 0, 0], [0xFF, 0xFF, 0xFF, 0xFF, 0, 0]), ([0x10, 0x02, 0x83, 0xA0, 0, 0], [0xFF, 0xFF, 0xFF, 0xFF, 0, 0]),
   ([0x10, 0x00, 0x2E, 0xA0, 0, 0], [0xFF, 0xFF, 0xFF, 0xFF, 0, 0]), ([0x10, 0x02, 0x60, 0xA3, 0, 0], [0xFF, 0xFF, 0xFF, 0xFF, 0, 0]),
   ([0x10, 0x02, 0x83, 0xA3, 0, 0], [0xFF, 0xFF, 0xFF, 0xFF, 0, 0]), ([0x10, 0x00, 0x2E, 0xA3, 0, 0], [0xFF, 0xFF, 0xFF, 0xFF, 0, 0])]

/-- The mode map and the model map (30_encoding.md R100, R101) with the kind codes of 10_state.md R34. -/
def kindTable (model : BitVec 16) (mode : Byte) : BitVec 2 :=
  match ([(0x01, 2), (0x02, 1), (0x08, 3)] : List (Byte × BitVec 2)).lookup mode with
  | some k => k
  | none =>
    if mode = 0xA0 ∨ mode = 0xA3 then
      (([(0x6002, 2), (0x8302, 1), (0x2E00, 3)] : List (BitVec 16 × BitVec 2)).lookup model).getD 0
    else 0

/-- The header fields of a frame (30_encoding.md R93). -/
def modelOf (raw : Bytes) : BitVec 16 := BitVec.ofNat 16 (le16Nat raw 1)
def modeOf (raw : Bytes) : Byte := raw.getD 3 0
def counterOf (raw : Bytes) : BitVec 16 := BitVec.ofNat 16 (le16Nat raw 4)

/-- A frame that reaches the key lookup: it fits, parses, and is of kind `k` (44_offset_search_decode.md R247 stages 2 to
4). -/
def Decodable (raw : Bytes) (k : RecordKind) : Prop :=
  6 ≤ raw.length ∧ raw.length ≤ 31 ∧ raw.getD 0 0 = 0x10 ∧ kindTable (modelOf raw) (modeOf raw) = kindCode (.supported k)

/-- The result registers after stage 1 of DECODE (R247): all 0 but the MAC and the RSSI. -/
def begun (env : Envelope) : Results :=
  { Results.zero with rMac := env.mac, rRssiV := env.rssiValid, rRssi := if env.rssiValid then env.rssi else 0 }

/-- The result registers once the header has parsed (R247 stages 1 to 4). -/
def withHeader (env : Envelope) (kind : BitVec 2) (model : BitVec 16) (mode : Byte) (counter : BitVec 16) (ctlen : Nat) :
    Results :=
  { begun env with rKind := kind, rModel := model, rMode := mode, rCtr := counter, rCtlen := BitVec.ofNat 8 ctlen }

/-- A state whose bit reader is emptied, with the given result registers; everything else as it was. -/
def emptied (s : State) (r : Results) : State := { s with brBuf := [], brLen := 0, brCur := 0, res := r }

/-- The state after a reading is emitted (R247 stage 8), for a frame of kind `k` of the device of slot `i`: the slot's
`seen` and `last_ctr`, the emptied reader, the result registers. Everything else, and every other slot, is as it was. -/
def emitted (s : State) (env : Envelope) (i : Nat) (k : RecordKind) (model : BitVec 16) (mode : Byte) (counter : BitVec 16)
    (ct : Bytes) : State :=
  let found := search Config.params k (s.slot i).key counter ct
  { emptied s { withHeader env (kindCode (.supported k)) model mode counter ct.length with
      fields := found.reading, rOffset := BitVec.ofNat 3 found.offset, rPlaus := found.plaus, rEmit := true } with
    slots := s.slots.set i { s.slot i with seen := true, lastCtr := counter } }

/-- The device of slot `i` has the MAC, a key, and has not emitted this counter last (R245, R246). -/
def Fresh (s : State) (mac : Mac) (i : Nat) (counter : BitVec 16) : Prop :=
  lookup s.slots mac = some i ∧ (s.slot i).keyOk = true ∧ ((s.slot i).seen = false ∨ (s.slot i).lastCtr ≠ counter)

/-- The reading at a search offset (R241). -/
def offsetReading (p : Params) (kind : RecordKind) (key : Block) (counter : BitVec 16) (ct : Bytes) (o : Nat) : Fields :=
  decodeRecord p kind (ctr p.ctrInc key counter (ct.drop o))

/-- Word `w[i]` of the key expansion (41_aes_ctr.md R155): word `i mod 4` of round key `i div 4`. -/
def expandedWord (key : Block) (i : Nat) : Column :=
  match i % 4 with
  | 0 => (roundKey key (i / 4)).c0
  | 1 => (roundKey key (i / 4)).c1
  | 2 => (roundKey key (i / 4)).c2
  | _ => (roundKey key (i / 4)).c3

/-- A field register as 43_record_decoders.md R201 writes it, from the raw pattern of its wire field (`none` when not present),
the sentinel of the field's row, if it has one (R202), and the value the decoder's rule gives. -/
def fieldRegister (sentinel : Option Nat) (value : Nat → Int) : Option Nat → FieldReg
  | none => ⟨false, false, 0⟩
  | some r => if sentinel = some r then ⟨true, false, 0⟩ else ⟨true, true, BitVec.ofInt 32 (value r)⟩

/-- The aux value's register by the table of 43_record_decoders.md R206, from the raw aux pattern and the raw type. -/
def auxRegister (aux type : Option Nat) : FieldReg :=
  match type with
  | some 0 => fieldRegister (some 0x7FFF) (sext 16) aux
  | some 1 => fieldRegister (some 0xFFFF) (fun r => (r : Int)) aux
  | some 2 => fieldRegister (some 0xFFFF) (fun r => (r : Int) - 27315) aux
  | _ => ⟨aux.isSome, false, 0⟩

/-- An available register's value lies in a range. -/
def InRange (f : FieldReg) (lo hi : Int) : Prop := f.v = true → lo ≤ f.val.toInt ∧ f.val.toInt ≤ hi

/-- The instruction is a DECODE, under its own row or an ADV row (log entry 3). -/
def IsDecode (i : Instr) : Prop := i.frame.isSome = true ∨ ∃ env raw, i = .decode env raw

/-- The instruction replaces the host's reader (40_bitreader.md R135): BROPEN, DECODE, DECREC or RESET. -/
def ReplacesReader (i : Instr) : Prop :=
  IsDecode i ∨ (∃ b, i = .bropen b) ∨ (∃ k pt, i = .decrec k pt) ∨ i = .reset

/-- The slot table with other keys in its slots. -/
def withKeys (s : State) (keys : Nat → Block) : State :=
  { s with slots := s.slots.mapIdx fun i sl => { sl with key := keys i } }

end Sys2Proof.Claims

open Sys2Proof.Claims

/-! ### Encoding -/

/-- 30_encoding.md R91 to R93, R109: decoding the encoding of a well-formed instruction gives it back, under the row's name
that its frame selects. No bit of an encoding is dropped.
The row names are the model's reading of the table (log entry 3). -/
def Obligations.DecodeOfEncodeIsCanonical : Prop :=
  ∀ i : Instr, i.wf = true → decodeCommand (encode i) = .ok (canonical i)

/-- The converse: each command string has one meaning, and what is decoded is well-formed (30_encoding.md R91, R92, R109).
The row names are the model's reading of the table (log entry 3). -/
def Obligations.EncodeOfDecodeIsCommand : Prop :=
  ∀ (bs : Bytes) (i : Instr), decodeCommand bs = .ok i → encode i = bs ∧ i.wf = true ∧ canonical i = i

/-- 30_encoding.md R92 and 45_host_commands.md R265 (the empty string): the decoder rejects exactly the malformed commands.
`BUF_MAX` is 31, its default (log entry 4). -/
def Obligations.DecoderRejectsExactlyMalformed : Prop :=
  ∀ bs : Bytes, (∃ e, decodeCommand bs = .error e) ↔ Malformed bs

/-- 30_encoding.md R109, R99 to R101: a frame selects the ADV row whose `match` and `mask` it satisfies, the specific rows
first; ADV.OTHERMODE and ADV.OTHERMARKER take the frames that no specific row takes, by the marker.
The row names are the model's reading of the table (log entry 3). -/
def Obligations.FrameSelectsItsTableRow : Prop :=
  ∀ (env : Envelope) (raw : Bytes), 6 ≤ raw.length → raw.length ≤ 31 →
    matchesPattern (rowPattern (selectRow env raw)) raw = true ∧
    (∀ p ∈ specificRows, matchesPattern p raw = true → rowPattern (selectRow env raw) = p) ∧
    (raw.getD 0 0 = 0x10 → (∀ p ∈ specificRows, matchesPattern p raw = false) →
      selectRow env raw = .advOthermode env (modelOf raw) (modeOf raw) (counterOf raw) (raw.drop 6)) ∧
    (raw.getD 0 0 ≠ 0x10 →
      selectRow env raw = .advOthermarker env (raw.getD 0 0) (modelOf raw) (modeOf raw) (counterOf raw) (raw.drop 6))

/-- Sanity of decoding: command strings of 95_test_vectors.md decode to the commands they stand for: RESET (P1 step 1), BRCAN
(V23), BRREADU and BRREADS (P2 steps 9 and 8), CLASSIFY (V38), DECREC (V6), DECODE (P4 step 14), and two malformed ones
(P4 steps 17 and 18). That the DECODE string decodes to `.advBm`, the row its frame selects, is the model's choice of name
(log entry 3). -/
def Obligations.SpecWordsDecode : Prop :=
  decodeCommand [0x00] = .ok .reset ∧ decodeCommand [0x05, 0x10] = .ok (.brcan 16) ∧
  decodeCommand [0x06, 0x14] = .ok (.brreadu 20) ∧ decodeCommand [0x07, 0x16] = .ok (.brreads 22) ∧
  decodeCommand [0x09, 0x02, 0x60, 0xA0] = .ok (.classify 0x6002 0xA0) ∧
  decodeCommand [0x0A, 0x01, 0x04, 0x00, 0x00, 0xFF, 0x7F] = .ok (.decrec .batteryMonitor [0x00, 0x00, 0xFF, 0x7F]) ∧
  decodeCommand [0x02, 0xAA, 0xBB, 0xCC, 0xDD, 0xEE, 0x03, 0x01, 0x07, 0x06, 0x10, 0x02, 0x83, 0x02, 0x00, 0x00] =
    .ok (.advBm ⟨⟨0xAA, 0xBB, 0xCC, 0xDD, 0xEE, 0x03⟩, true, 0x07⟩ 0x8302 0x0000 []) ∧
  decodeCommand [0x0B] = .error .unknownOpcode ∧ decodeCommand [0x05, 0x01, 0x02] = .error .wrongLength

/-! ### The step -/

/-- 45_host_commands.md R265: when the command at the head of the port decodes to `i`, a step is `exec i` on the state
without that command.
The port is the model's own (log entry 1). -/
def Obligations.StepRunsDecodedCommand : Prop :=
  ∀ (s : State) (cmd : Bytes) (rest : List Bytes) (i : Instr), s.port = cmd :: rest → decodeCommand cmd = .ok i →
    step s = exec i { s with port := rest }

/-- 45_host_commands.md R265, "The step is a total, deterministic function": every command, well-formed or not, in every
state, is answered with a next state, and the step takes exactly that command from the port.
The port is the model's own (log entry 1). -/
def Obligations.StepAnswersEveryCommand : Prop :=
  ∀ (s : State) (cmd : Bytes) (rest : List Bytes), s.port = cmd :: rest → ∃ t, step s = .next t ∧ t.port = rest

/-- 60_exceptions.md R288: a malformed command clears the result registers, answers `BAD_COMMAND`, changes nothing else.
The port is the model's own (log entry 1). -/
def Obligations.MalformedAnswersBadCommand : Prop :=
  ∀ (s : State) (cmd : Bytes) (rest : List Bytes), s.fault = false → s.port = cmd :: rest → Malformed cmd →
    step s = .next { s with port := rest, res := { Results.zero with rStatus := 0x13 } }

/-- 60_exceptions.md R290: while `FAULT = 1` every command except a well-formed RESET, a malformed one among them, is answered
`FAULTED` and has no other effect: no result register is cleared, `FAULT_CODE` keeps the cause. RESET clears `FAULT`. -/
def Obligations.FaultedRefusesAllButReset : Prop :=
  ∀ s : State, s.fault = true →
    (∀ i : Instr, i ≠ .reset → exec i s = .next { s with res := { s.res with rStatus := 0x2F } }) ∧
    execMalformed s = .next { s with res := { s.res with rStatus := 0x2F } } ∧
    ∃ t, exec .reset s = .next t ∧ t.fault = false

/-- 45_host_commands.md R260, R265 step 2: of all byte strings only the one-byte RESET escapes the refusal of a faulted block;
the others, a RESET with extra bytes and the empty string among them, are answered `FAULTED`.
The port, and that a RESET leaves it as it is, are the model's own (log entries 1 and 5). -/
def Obligations.FaultedStepAcceptsOnlyOneByteReset : Prop :=
  ∀ (s : State) (cmd : Bytes) (rest : List Bytes), s.fault = true → s.port = cmd :: rest →
    (cmd ≠ [0x00] → step s = .next { s with port := rest, res := { s.res with rStatus := 0x2F } }) ∧
    (cmd = [0x00] → step s = .next { State.reset with port := rest })

/-! ### Reset and invariants -/

/-- 70_reset_and_hazards.md R320: the reset value of every element, and RESET gives the same state (45_host_commands.md
R260). What a RESET does to the commands still at the port is the model's choice (log entry 5). -/
def Obligations.ResetGivesResetState : Prop :=
  (∀ s : State, exec .reset s = .next { State.reset with port := s.port }) ∧
  State.reset.slots = [⟨false, Mac.zero, false, Block.zero, false, 0⟩, ⟨false, Mac.zero, false, Block.zero, false, 0⟩,
    ⟨false, Mac.zero, false, Block.zero, false, 0⟩] ∧
  State.reset.fault = false ∧ State.reset.faultCode = 0 ∧ State.reset.brBuf = [] ∧ State.reset.brLen = 0 ∧
  State.reset.brCur = 0 ∧
  State.reset.res = ⟨0, false, 0, Mac.zero, false, 0, 0, 0, 0, 0, 0, false, Vector.replicate 11 ⟨false, false, 0⟩, false, 0, 0, []⟩

/-- The invariant of Sys2Proof/Safety.lean holds at reset. -/
def Obligations.InvariantHoldsAtReset : Prop := State.reset.Inv

/-- Every step keeps the invariant (10_state.md R25, R28 to R30, R33, R35, R37, R38, R40; 60_exceptions.md R280, R290).
The port is the model's own (log entry 1), `N_SLOTS` and `BUF_MAX` are the defaults of R7 (log entry 4). -/
def Obligations.StepKeepsInvariant : Prop := ∀ s t : State, s.Inv → step s = .next t → t.Inv

/-- 10_state.md R26 and 45_host_commands.md R262: a used slot keeps its MAC and its key in every step but a RESET.
The port is the model's own (log entry 1). -/
def Obligations.KeysAreImmutable : Prop :=
  ∀ (s t : State) (i : Nat), step s = .next t → s.port.head? ≠ some [0x00] → (s.slot i).used = true →
    (t.slot i).used = true ∧ (t.slot i).mac = (s.slot i).mac ∧ (t.slot i).key = (s.slot i).key ∧
      (t.slot i).keyOk = (s.slot i).keyOk

/-- 10_state.md R25: `lookup` answers the least used slot of a MAC, or none; in a state that keeps the invariant no other used
slot has that MAC. -/
def Obligations.LookupFindsTheOnlySlot : Prop :=
  ∀ (s : State) (mac : Mac),
    (∀ i, lookup s.slots mac = some i ↔ i < s.slots.length ∧ (s.slot i).used = true ∧ (s.slot i).mac = mac ∧
      ∀ j, j < i → (s.slot j).used = true → (s.slot j).mac ≠ mac) ∧
    (lookup s.slots mac = none ↔ ∀ sl ∈ s.slots, sl.used = true → sl.mac ≠ mac) ∧
    (s.Inv → ∀ i j, lookup s.slots mac = some i → (s.slot j).used = true → (s.slot j).mac = mac → j = i)

/-- 10_state.md R31: every accepted command starts from cleared result registers, so that no result register carries a value
from an earlier command; their reset value is 0. -/
def Obligations.ResultsAreFresh : Prop :=
  (∀ (i : Instr) (s : State) (r : Results), s.fault = false → exec i { s with res := r } = exec i s) ∧
  (∀ (s : State) (r : Results), s.fault = false → execMalformed { s with res := r } = execMalformed s) ∧
  State.reset.res = Results.zero

/-- 60_exceptions.md R289: the two sticky faults, their conditions and their effect; and no other command raises one. -/
def Obligations.OnlyUnsafeReadsFault : Prop :=
  (∀ (s : State) (n : Byte), s.fault = false → (n.toNat = 0 ∨ 32 < n.toNat) →
    exec (.brreadu n) s = .next { s with fault := true, faultCode := 0x21, res := { Results.zero with rStatus := 0x21 } } ∧
    exec (.brreads n) s = .next { s with fault := true, faultCode := 0x21, res := { Results.zero with rStatus := 0x21 } }) ∧
  (∀ (s : State) (n : Byte), s.fault = false → 1 ≤ n.toNat → n.toNat ≤ 32 → 8 * s.brLen < s.brCur + n.toNat →
    exec (.brreadu n) s = .next { s with fault := true, faultCode := 0x20, res := { Results.zero with rStatus := 0x20 } } ∧
    exec (.brreads n) s = .next { s with fault := true, faultCode := 0x20, res := { Results.zero with rStatus := 0x20 } }) ∧
  (∀ (i : Instr) (s t : State), s.fault = false → (∀ n, i ≠ .brreadu n) → (∀ n, i ≠ .brreads n) → exec i s = .next t →
    t.fault = false)

/-! ### The bit reader -/

/-- 40_bitreader.md R131: BROPEN. -/
def Obligations.BropenOpensReader : Prop :=
  ∀ (s : State) (bytes : Bytes), s.fault = false →
    exec (.bropen bytes) s = .next { s with brBuf := bytes, brLen := bytes.length, brCur := 0, res := Results.zero }

/-- 40_bitreader.md R132: BRCAN answers the comparison for every `n` and moves nothing. -/
def Obligations.BrcanAnswersComparison : Prop :=
  ∀ (s : State) (n : Byte), s.fault = false →
    exec (.brcan n) s = .next { s with res := { Results.zero with rBool := decide (s.brCur + n.toNat ≤ 8 * s.brLen) } }

/-- 40_bitreader.md R133 steps 3 and 4: BRREADU of a width 1 to 32 that fits. -/
def Obligations.BrreaduReadsBits : Prop :=
  ∀ (s : State) (n : Byte), s.fault = false → 1 ≤ n.toNat → n.toNat ≤ 32 → s.brCur + n.toNat ≤ 8 * s.brLen →
    exec (.brreadu n) s =
      .next { s with
        brCur := s.brCur + n.toNat,
        res := { Results.zero with rVal := BitVec.ofNat 32 (fieldSum s.brBuf s.brCur n.toNat) } } ∧
    fieldSum s.brBuf s.brCur n.toNat < 2 ^ n.toNat

/-- 40_bitreader.md R134: BRREADS of a width 1 to 32 that fits: `v - 2^n` if `v[n-1] = 1`, else `v`, modulo `2^32`. -/
def Obligations.BrreadsReadsSignedBits : Prop :=
  ∀ (s : State) (n : Byte), s.fault = false → 1 ≤ n.toNat → n.toNat ≤ 32 → s.brCur + n.toNat ≤ 8 * s.brLen →
    exec (.brreads n) s =
      .next { s with
        brCur := s.brCur + n.toNat,
        res := { Results.zero with
          rVal := BitVec.ofInt 32 ((fieldSum s.brBuf s.brCur n.toNat : Int) -
            if bitOf s.brBuf (s.brCur + n.toNat - 1) = 1 then 2 ^ n.toNat else 0) } }

/-- 40_bitreader.md R136: an unsigned read is exact and fits 32 bits; sign extension is the two's complement reading of the
pattern, and `s mod 2^n = v`. -/
def Obligations.SignExtensionIsTwosComplement : Prop :=
  (∀ (b : Bytes) (c n : Nat), bitRead b c n = fieldSum b c n ∧ bitRead b c n < 2 ^ n) ∧
  ∀ n v : Nat, 1 ≤ n → n ≤ 32 → v < 2 ^ n →
    sext n v = (BitVec.ofNat n v).toInt ∧ sext n v % 2 ^ n = v ∧ -(2 ^ (n - 1)) ≤ sext n v ∧ sext n v < 2 ^ (n - 1)

/-- 40_bitreader.md R137: composition. Two reads and the one read of both widths give the same bits and the same reader. -/
def Obligations.ReadsCompose : Prop :=
  ∀ (s : State) (n1 n2 n : Byte), s.fault = false → 1 ≤ n1.toNat → 1 ≤ n2.toNat → n.toNat = n1.toNat + n2.toNat →
    n.toNat ≤ 32 → s.brCur + n.toNat ≤ 8 * s.brLen →
    ∃ s1 s2 t : State, exec (.brreadu n1) s = .next s1 ∧ exec (.brreadu n2) s1 = .next s2 ∧ exec (.brreadu n) s = .next t ∧
      t.res.rVal = s1.res.rVal ||| (s2.res.rVal <<< n1.toNat) ∧ t.brCur = s2.brCur ∧ t.brBuf = s2.brBuf

/-- 40_bitreader.md R138: a read of a legal width after a BRCAN that answered 1 does not fault. -/
def Obligations.CheckedReadDoesNotFault : Prop :=
  ∀ (s t : State) (n : Byte), s.fault = false → 1 ≤ n.toNat → n.toNat ≤ 32 → exec (.brcan n) s = .next t →
    t.res.rBool = true →
    ∃ u w : State, exec (.brreadu n) t = .next u ∧ u.fault = false ∧ u.res.rStatus = 0x00 ∧
      exec (.brreads n) t = .next w ∧ w.fault = false ∧ w.res.rStatus = 0x00

/-- 40_bitreader.md R135: forward only. No command but those that replace the reader changes the buffer or moves the cursor
back. -/
def Obligations.CursorIsForwardOnly : Prop :=
  (∀ (i : Instr) (s t : State), exec i s = .next t → ¬ ReplacesReader i →
    s.brCur ≤ t.brCur ∧ t.brBuf = s.brBuf ∧ t.brLen = s.brLen) ∧
  (∀ s t : State, execMalformed s = .next t → t.brCur = s.brCur ∧ t.brBuf = s.brBuf ∧ t.brLen = s.brLen)

/-- 45_host_commands.md R270: DECODE, also when it skips, and DECREC leave the bit reader emptied; PARSEHDR, CLASSIFY, CTRCRYPT
and KEYLOAD do not touch it. -/
def Obligations.ReaderUnitIsShared : Prop :=
  (∀ (i : Instr) (s t : State), s.fault = false → (IsDecode i ∨ ∃ k pt, i = .decrec k pt) → exec i s = .next t →
    t.brBuf = [] ∧ t.brLen = 0 ∧ t.brCur = 0) ∧
  (∀ (i : Instr) (s t : State), ((∃ raw, i = .parsehdr raw) ∨ (∃ m o, i = .classify m o) ∨ (∃ k c d, i = .ctrcrypt k c d) ∨
    ∃ mac k, i = .keyload mac k) → exec i s = .next t →
    t.brBuf = s.brBuf ∧ t.brLen = s.brLen ∧ t.brCur = s.brCur)

/-! ### The cipher -/

/-- The check values of 41_aes_ctr.md R156. -/
def Obligations.CipherKnownAnswers : Prop :=
  encryptBlock (blockOfNat 0x000102030405060708090a0b0c0d0e0f) (blockOfNat 0x00112233445566778899aabbccddeeff) =
    blockOfNat 0x69c4e0d86a7b0430d8cdb78070b4c55a ∧
  encryptBlock (blockOfNat 0x2b7e151628aed2a6abf7158809cf4f3c) (blockOfNat 0x3243f6a8885a308d313198a2e0370734) =
    blockOfNat 0x3925841d02dc09fbdc118597196a0b32 ∧
  encryptBlock (blockOfNat 0) (blockOfNat 0) = blockOfNat 0x66e94bd4ef8a2c3b884cfa59ca342b2e

/-- 41_aes_ctr.md R155, R156: the round keys are the words of the key expansion's recurrence, and the cipher is the ten
rounds over them. -/
def Obligations.CipherFollowsKeyExpansion : Prop :=
  (∀ (key : Block) (i : Nat), 4 ≤ i → i < 44 →
    expandedWord key i = xorColumn (expandedWord key (i - 4))
      (if i % 4 = 0 then xorColumn (subWord (rotWord (expandedWord key (i - 1)))) ⟨rcon (i / 4), 0, 0, 0⟩
       else expandedWord key (i - 1))) ∧
  (∀ key : Block, expandedWord key 0 = key.c0 ∧ expandedWord key 1 = key.c1 ∧ expandedWord key 2 = key.c2 ∧
    expandedWord key 3 = key.c3) ∧
  (∀ key input : Block, encryptBlock key input =
    addRoundKey (roundKey key 10) (shiftRows (subBytes
      ((List.range 9).foldl (fun s j => addRoundKey (roundKey key (j + 1)) (mixColumns (shiftRows (subBytes s))))
        (addRoundKey (roundKey key 0) input)))))

/-- 41_aes_ctr.md R153: the S-box table is the affine map of the inverse in the field of R152. -/
def Obligations.SboxIsAffineInverse : Prop :=
  ∀ a : Byte, ∃ b : Byte, ((a = 0 ∧ b = 0) ∨ gfMul a b = 1) ∧
    sbox a = b ^^^ b.rotateLeft 1 ^^^ b.rotateLeft 2 ^^^ b.rotateLeft 3 ^^^ b.rotateLeft 4 ^^^ 0x63

/-- 41_aes_ctr.md R152, R154: one column of MixColumns is the product with the multipliers 2 and 3 of the field. -/
def Obligations.MixColumnsMultipliesInField : Prop :=
  ∀ x : Column, mixColumn x =
    ⟨gfMul 2 x.a0 ^^^ gfMul 3 x.a1 ^^^ x.a2 ^^^ x.a3, x.a0 ^^^ gfMul 2 x.a1 ^^^ gfMul 3 x.a2 ^^^ x.a3,
     x.a0 ^^^ x.a1 ^^^ gfMul 2 x.a2 ^^^ gfMul 3 x.a3, gfMul 3 x.a0 ^^^ x.a1 ^^^ x.a2 ^^^ gfMul 2 x.a3⟩

/-- 41_aes_ctr.md R160, R161: counter block `j` is the first one plus `j` modulo `2^128`, as a big-endian or little-endian
integer; the first holds the counter in bytes 0 and 1, little-endian, and zeros. -/
def Obligations.CounterBlocksCount : Prop :=
  ∀ (c : BitVec 16) (j : Nat),
    leNat (counterBlock .le128 c j).toBytes = (c.toNat + j) % 2 ^ 128 ∧
    leNat (counterBlock .be128 c j).toBytes.reverse =
      (c.toNat % 256 * 2 ^ 120 + c.toNat / 256 * 2 ^ 112 + j) % 2 ^ 128 ∧
    (counterBlock0 c).toBytes = [BitVec.ofNat 8 c.toNat, BitVec.ofNat 8 (c.toNat / 256), 0, 0, 0, 0, 0, 0, 0, 0, 0, 0, 0, 0, 0, 0]

/-- 41_aes_ctr.md R150, R162: the output has the input's length, and byte `i` is the input's XOR-ed with byte `i mod 16` of the
cipher of counter block `i div 16`. -/
def Obligations.CounterModeFormula : Prop :=
  ∀ (inc : CtrInc) (key : Block) (c : BitVec 16) (data : Bytes),
    (ctr inc key c data).length = data.length ∧
    ∀ i, i < data.length →
      (ctr inc key c data).getD i 0 = data.getD i 0 ^^^ blockByte (encryptBlock key (counterBlock inc c (i / 16))) (i % 16)

/-- 41_aes_ctr.md R163: counter mode is its own inverse. -/
def Obligations.CounterModeIsItsOwnInverse : Prop :=
  ∀ (inc : CtrInc) (key : Block) (c : BitVec 16) (x : Bytes), ctr inc key c (ctr inc key c x) = x

/-- 41_aes_ctr.md R161, last sentence: the two advances agree on every input of at most 16 bytes. -/
def Obligations.CounterAdvanceIrrelevantInOneBlock : Prop :=
  ∀ (key : Block) (c : BitVec 16) (x : Bytes), x.length ≤ 16 → ctr .be128 key c x = ctr .le128 key c x

/-- 41_aes_ctr.md R164, R166: CTRCRYPT with a 16-byte key writes the data result and nothing else; with a key of another
length it does nothing but raise `CFG_KEY_LENGTH`.
The parameters are the defaults of R7 (log entry 4). -/
def Obligations.CtrcryptWritesData : Prop :=
  ∀ (s : State) (kbytes : Bytes) (c : BitVec 16) (data : Bytes), s.fault = false →
    (kbytes.length = 16 → exec (.ctrcrypt kbytes c data) s =
      .next { s with res := { Results.zero with
        rDlen := BitVec.ofNat 8 data.length, rData := ctr .be128 (blockOf fun i => kbytes.getD i 0) c data } }) ∧
    (kbytes.length ≠ 16 →
      exec (.ctrcrypt kbytes c data) s = .next { s with res := { Results.zero with rStatus := 0x10 } })

/-! ### Header and dispatcher -/

/-- 42_header_dispatch.md R180, R181: PARSEHDR of a frame writes the header registers; a short string and another marker are
the two skips. -/
def Obligations.ParsehdrReadsHeader : Prop :=
  ∀ (s : State) (raw : Bytes), s.fault = false →
    (6 ≤ raw.length → raw.getD 0 0 = 0x10 → exec (.parsehdr raw) s =
      .next { s with res := { Results.zero with
        rModel := modelOf raw, rMode := modeOf raw, rCtr := counterOf raw, rCtlen := BitVec.ofNat 8 (raw.length - 6) } }) ∧
    (raw.length < 6 → exec (.parsehdr raw) s = .next { s with res := { Results.zero with rStatus := 0x01 } }) ∧
    (6 ≤ raw.length → raw.getD 0 0 ≠ 0x10 →
      exec (.parsehdr raw) s = .next { s with res := { Results.zero with rStatus := 0x02 } })

/-- 42_header_dispatch.md R185, R186: CLASSIFY answers the kind of the mode map and the model map, status OK. -/
def Obligations.ClassifyFollowsTables : Prop :=
  ∀ (s : State) (model : BitVec 16) (mode : Byte), s.fault = false →
    exec (.classify model mode) s =
      .next { s with res := { Results.zero with rKind := kindTable model mode, rModel := model, rMode := mode } }

/-! ### Record decoders -/

/-- 43_record_decoders.md R200: field `j` is present exactly when its last bit is inside the plaintext, and its pattern stands
at the running sum of the widths. -/
def Obligations.FieldsAreReadInOrder : Prop :=
  ∀ (pt : Bytes) (skip : Nat) (ws : List Nat) (j : Nat), j < ws.length →
    rawField (readFields pt skip ws) j = fieldAt pt (skip + (ws.take j).sum) (ws.getD j 0)

/-- 30_encoding.md R95, 43_record_decoders.md R203 to R210: the Battery Monitor's registers, with the sub-header skip as
parameter. -/
def Obligations.BatteryMonitorLayout : Prop :=
  ∀ (skip : Nat) (pt : Bytes),
    decodeBm skip pt =
      #v[fieldRegister none (fun r => (r : Int)) (fieldAt pt (skip + 0) 16),
         fieldRegister (some 0x7FFF) (fun r => (r : Int)) (fieldAt pt (skip + 16) 16),
         fieldRegister none (fun r => (r : Int)) (fieldAt pt (skip + 32) 16),
         auxRegister (fieldAt pt (skip + 48) 16) (fieldAt pt (skip + 64) 2),
         fieldRegister none (fun r => (r : Int)) (fieldAt pt (skip + 64) 2),
         fieldRegister (some 0x3FFFFF) (sext 22) (fieldAt pt (skip + 66) 22),
         fieldRegister none (fun r => -(r : Int)) (fieldAt pt (skip + 88) 20),
         fieldRegister (some 0x3FF) (fun r => (r : Int)) (fieldAt pt (skip + 108) 10),
         ⟨false, false, 0⟩, ⟨false, false, 0⟩, ⟨false, false, 0⟩]

/-- 43_record_decoders.md R201, R202, R206: what a field register holds. For every sentinel (or none), value and raw pattern:
an absent field gives (0,0,0), the sentinel (1,0,0), every other pattern, and every pattern of a field without a sentinel,
(1,1,value); and the aux value by its type. -/
def Obligations.AuxValueByType : Prop :=
  (∀ (sentinel : Option Nat) (value : Nat → Int), writeField sentinel value none = ⟨false, false, 0⟩) ∧
  (∀ (k : Nat) (value : Nat → Int), writeField (some k) value (some k) = ⟨true, false, 0⟩) ∧
  (∀ (k r : Nat) (value : Nat → Int), r ≠ k → writeField (some k) value (some r) = ⟨true, true, BitVec.ofInt 32 (value r)⟩) ∧
  (∀ (r : Nat) (value : Nat → Int), writeField none value (some r) = ⟨true, true, BitVec.ofInt 32 (value r)⟩) ∧
  (∀ type : Option Nat, writeAux none type = ⟨false, false, 0⟩) ∧
  ∀ r : Nat,
    writeAux (some r) none = ⟨true, false, 0⟩ ∧
    writeAux (some r) (some 0) = (if r = 0x7FFF then ⟨true, false, 0⟩ else ⟨true, true, BitVec.ofInt 32 (sext 16 r)⟩) ∧
    writeAux (some r) (some 1) = (if r = 0xFFFF then ⟨true, false, 0⟩ else ⟨true, true, BitVec.ofInt 32 r⟩) ∧
    writeAux (some r) (some 2) = (if r = 0xFFFF then ⟨true, false, 0⟩ else ⟨true, true, BitVec.ofInt 32 ((r : Int) - 27315)⟩) ∧
    writeAux (some r) (some 3) = ⟨true, false, 0⟩

/-- 30_encoding.md R96, 43_record_decoders.md R212 to R217: the Solar Charger's registers, and its derived power. -/
def Obligations.SolarChargerLayout : Prop :=
  ∀ pt : Bytes,
    let f := decodeSolar pt
    f[0] = fieldRegister none (fun r => (r : Int)) (fieldAt pt 0 8) ∧
    f[1] = fieldRegister none (fun r => (r : Int)) (fieldAt pt 8 8) ∧
    f[2] = fieldRegister (some 0x7FFF) (sext 16) (fieldAt pt 16 16) ∧
    f[3] = fieldRegister (some 0x7FFF) (sext 16) (fieldAt pt 32 16) ∧
    f[4] = fieldRegister none (fun r => (r : Int)) (fieldAt pt 48 16) ∧
    f[5] = fieldRegister none (fun r => if r = 0xFFFF then 0 else (r : Int)) (fieldAt pt 64 16) ∧
    f[6] = fieldRegister none (fun r => (r : Int)) (fieldAt pt 80 9) ∧
    f[7].rd = false ∧ f[8].rd = false ∧ f[8].v = true ∧ (f[7].v = true ↔ f[8].val ≠ 0) ∧
    (f[5].v = true → f[5].val ≠ 0 → f[8].val = 1 ∧ f[7].val.toInt = f[5].val.toInt * 1000) ∧
    (¬ (f[5].v = true ∧ f[5].val ≠ 0) → f[2].v = true → f[3].v = true →
      f[8].val = 2 ∧ f[7].val.toInt = f[2].val.toInt * f[3].val.toInt) ∧
    (¬ (f[5].v = true ∧ f[5].val ≠ 0) → ¬ (f[2].v = true ∧ f[3].v = true) → f[8].val = 0 ∧ f[7].val = 0) ∧
    f[9] = ⟨false, false, 0⟩ ∧ f[10] = ⟨false, false, 0⟩

/-- 30_encoding.md R97, 43_record_decoders.md R220 to R222: the AC Charger's registers, in both bank orders. -/
def Obligations.AcChargerLayout : Prop :=
  ∀ (order : BankOrder) (pt : Bytes),
    let pos := match order with
      | .grouped => [16, 29, 42, 55, 66, 77]
      | .interleaved => [16, 40, 64, 29, 53, 77]
    decodeAc order pt =
      #v[fieldRegister none (fun r => (r : Int)) (fieldAt pt 0 8), fieldRegister none (fun r => (r : Int)) (fieldAt pt 8 8),
         fieldRegister (some 0x1FFF) (fun r => (r : Int)) (fieldAt pt (pos.getD 0 0) 13),
         fieldRegister (some 0x1FFF) (fun r => (r : Int)) (fieldAt pt (pos.getD 1 0) 13),
         fieldRegister (some 0x1FFF) (fun r => (r : Int)) (fieldAt pt (pos.getD 2 0) 13),
         fieldRegister (some 0x7FF) (fun r => (r : Int)) (fieldAt pt (pos.getD 3 0) 11),
         fieldRegister (some 0x7FF) (fun r => (r : Int)) (fieldAt pt (pos.getD 4 0) 11),
         fieldRegister (some 0x7FF) (fun r => (r : Int)) (fieldAt pt (pos.getD 5 0) 11),
         fieldRegister none (fun r => (r : Int)) (fieldAt pt 88 7), fieldRegister none (fun r => (r : Int)) (fieldAt pt 95 9),
         ⟨false, false, 0⟩]

/-- 10_state.md R41 to R43: the range of every field register that is available. -/
def Obligations.FieldRanges : Prop :=
  ∀ (skip : Nat) (order : BankOrder) (pt : Bytes),
    (let f := decodeBm skip pt
     InRange f[0] 0 65535 ∧ InRange f[1] 0 65535 ∧ (f[1].v = true → f[1].val.toInt ≠ 32767) ∧ InRange f[2] 0 65535 ∧
     InRange f[3] (-32768) 65534 ∧ InRange f[4] 0 3 ∧ InRange f[5] (-2097152) 2097151 ∧
     (f[5].v = true → f[5].val.toInt ≠ -1) ∧ InRange f[6] (-1048575) 0 ∧ InRange f[7] 0 1022) ∧
    (let f := decodeSolar pt
     InRange f[0] 0 255 ∧ InRange f[1] 0 255 ∧ InRange f[2] (-32768) 32766 ∧ InRange f[3] (-32768) 32766 ∧
     InRange f[4] 0 65535 ∧ InRange f[5] 0 65534 ∧ InRange f[6] 0 511 ∧ InRange f[7] (-(2 ^ 30)) (2 ^ 30) ∧ InRange f[8] 0 2) ∧
    (let f := decodeAc order pt
     InRange f[0] 0 255 ∧ InRange f[1] 0 255 ∧ InRange f[2] 0 8190 ∧ InRange f[3] 0 8190 ∧ InRange f[4] 0 8190 ∧
     InRange f[5] 0 2046 ∧ InRange f[6] 0 2046 ∧ InRange f[7] 0 2046 ∧ InRange f[8] 0 127 ∧ InRange f[9] 0 511)

/-- 44_offset_search_decode.md R240: the plausibility test at the default bounds; for a decoded AC record the upper bounds
cannot bind.
The bounds are the defaults of R7 (log entry 4). -/
def Obligations.PlausibilityBounds : Prop :=
  (∀ f : Fields, plausible Config.params .batteryMonitor f = true ↔
    f[1].v = true ∧ f[5].v = true ∧ 1000 ≤ f[1].val.toInt ∧ f[1].val.toInt ≤ 15000 ∧
      -1000000 ≤ f[5].val.toInt ∧ f[5].val.toInt ≤ 1000000) ∧
  (∀ f : Fields, plausible Config.params .solarCharger f = true ↔
    f[2].v = true ∧ f[3].v = true ∧ 1000 ≤ f[2].val.toInt ∧ f[2].val.toInt ≤ 15000 ∧
      -10000 ≤ f[3].val.toInt ∧ f[3].val.toInt ≤ 10000) ∧
  (∀ f : Fields, plausible Config.params .acCharger f = true ↔
    f[2].v = true ∧ f[5].v = true ∧ 1000 ≤ f[2].val.toInt ∧ f[2].val.toInt ≤ 15000 ∧
      -10000 ≤ f[5].val.toInt ∧ f[5].val.toInt ≤ 10000) ∧
  (∀ (order : BankOrder) (pt : Bytes), plausible Config.params .acCharger (decodeAc order pt) = true ↔
    (decodeAc order pt)[2].v = true ∧ (decodeAc order pt)[5].v = true ∧ 1000 ≤ (decodeAc order pt)[2].val.toInt)

/-- 43_record_decoders.md R230: DECREC, for each kind.
The parameters are the defaults of R7 (log entry 4). -/
def Obligations.DecrecWritesReading : Prop :=
  ∀ (s : State) (pt : Bytes), s.fault = false →
    exec (.decrec .batteryMonitor pt) s = .next (emptied s { Results.zero with
      rKind := 1, fields := decodeBm 0 pt, rPlaus := plausible Config.params .batteryMonitor (decodeBm 0 pt) }) ∧
    exec (.decrec .solarCharger pt) s = .next (emptied s { Results.zero with
      rKind := 2, fields := decodeSolar pt, rPlaus := plausible Config.params .solarCharger (decodeSolar pt) }) ∧
    exec (.decrec .acCharger pt) s = .next (emptied s { Results.zero with
      rKind := 3, fields := decodeAc .grouped pt, rPlaus := plausible Config.params .acCharger (decodeAc .grouped pt) })

/-! ### The offset search and DECODE -/

/-- 44_offset_search_decode.md R241: the search answers the first plausible of the offsets `0 .. min(7, L) - 1`, or, when none
is, offset 0's reading, not plausible. -/
def Obligations.SearchFindsFirstPlausible : Prop :=
  ∀ (p : Params) (kind : RecordKind) (key : Block) (c : BitVec 16) (ct : Bytes),
    let rd := offsetReading p kind key c ct
    let found := search p kind key c ct
    ((∃ o, o < min 7 ct.length ∧ plausible p kind (rd o) = true) →
      found.plaus = true ∧ found.offset < min 7 ct.length ∧ found.reading = rd found.offset ∧
        plausible p kind (rd found.offset) = true ∧ ∀ o, o < found.offset → plausible p kind (rd o) = false) ∧
    ((∀ o, o < min 7 ct.length → plausible p kind (rd o) = false) → found = ⟨rd 0, 0, false⟩)

/-- 44_offset_search_decode.md R242: an empty ciphertext gives the decode of the empty plaintext, every field absent, offset 0,
not plausible. -/
def Obligations.EmptyCiphertextGivesAbsentReading : Prop :=
  ∀ (p : Params) (kind : RecordKind) (key : Block) (c : BitVec 16),
    search p kind key c [] = ⟨decodeRecord p kind [], 0, false⟩ ∧ ∀ k : Fin 11, (decodeRecord p kind [])[k].rd = false

/-- 44_offset_search_decode.md R247 stages 1 to 6, R248 and 60_exceptions.md R296: which skip a DECODE ends in, in the order of
the stages, and what it leaves: no reading, no field, the slot table as it was.
The parameters are the defaults of R7 (log entry 4). -/
def Obligations.DecodeSkips : Prop :=
  ∀ (s : State) (env : Envelope) (raw : Bytes), s.fault = false →
    (31 < raw.length → exec (.decode env raw) s = .next (emptied s { begun env with rStatus := 0x06 })) ∧
    (raw.length < 6 → exec (.decode env raw) s = .next (emptied s { begun env with rStatus := 0x01 })) ∧
    (6 ≤ raw.length → raw.length ≤ 31 → raw.getD 0 0 ≠ 0x10 →
      exec (.decode env raw) s = .next (emptied s { begun env with rStatus := 0x02 })) ∧
    (6 ≤ raw.length → raw.length ≤ 31 → raw.getD 0 0 = 0x10 → kindTable (modelOf raw) (modeOf raw) = 0 →
      exec (.decode env raw) s = .next (emptied s
        { withHeader env 0 (modelOf raw) (modeOf raw) (counterOf raw) (raw.length - 6) with rStatus := 0x03 })) ∧
    (∀ k, Decodable raw k → (∀ sl ∈ s.slots, sl.used = true → sl.mac ≠ env.mac) →
      exec (.decode env raw) s = .next (emptied s
        { withHeader env (kindCode (.supported k)) (modelOf raw) (modeOf raw) (counterOf raw) (raw.length - 6) with
          rStatus := 0x04 })) ∧
    (∀ k i, Decodable raw k → lookup s.slots env.mac = some i → (s.slot i).keyOk = false →
      exec (.decode env raw) s = .next (emptied s
        { withHeader env (kindCode (.supported k)) (modelOf raw) (modeOf raw) (counterOf raw) (raw.length - 6) with
          rStatus := 0x04 })) ∧
    (∀ k i, Decodable raw k → lookup s.slots env.mac = some i → (s.slot i).keyOk = true → (s.slot i).seen = true →
      (s.slot i).lastCtr = counterOf raw →
      exec (.decode env raw) s = .next (emptied s
        { withHeader env (kindCode (.supported k)) (modelOf raw) (modeOf raw) (counterOf raw) (raw.length - 6) with
          rStatus := 0x05 }))

/-- 44_offset_search_decode.md R247 stages 7 and 8: a decodable frame of a device with a key and a new counter is emitted.
The parameters are the defaults of R7 (log entry 4). -/
def Obligations.DecodeEmitsReading : Prop :=
  ∀ (s : State) (env : Envelope) (raw : Bytes) (k : RecordKind) (i : Nat), s.fault = false → Decodable raw k →
    Fresh s env.mac i (counterOf raw) →
    exec (.decode env raw) s =
      .next (emitted s env i k (modelOf raw) (modeOf raw) (counterOf raw) (raw.drop 6))

/-- 42_header_dispatch.md R189, the rows ADV.SOLAR, ADV.A0.SOLAR, ADV.A3.SOLAR: the search with `decode_solar` is emitted.
The row names are the model's reading of the table (log entry 3), the parameters the defaults of R7 (log entry 4). -/
def Obligations.SolarFramesEmit : Prop :=
  ∀ (s : State) (env : Envelope) (model c : BitVec 16) (ct : Bytes) (i : Nat), s.fault = false → Fresh s env.mac i c →
    exec (.advSolar env model c ct) s = .next (emitted s env i .solarCharger model 0x01 c ct) ∧
    exec (.advA0Solar env c ct) s = .next (emitted s env i .solarCharger 0x6002 0xA0 c ct) ∧
    exec (.advA3Solar env c ct) s = .next (emitted s env i .solarCharger 0x6002 0xA3 c ct)

/-- 42_header_dispatch.md R189, the rows ADV.BM, ADV.A0.BM, ADV.A3.BM: the search with `decode_bm` is emitted.
The row names are the model's reading of the table (log entry 3), the parameters the defaults of R7 (log entry 4). -/
def Obligations.BatteryMonitorFramesEmit : Prop :=
  ∀ (s : State) (env : Envelope) (model c : BitVec 16) (ct : Bytes) (i : Nat), s.fault = false → Fresh s env.mac i c →
    exec (.advBm env model c ct) s = .next (emitted s env i .batteryMonitor model 0x02 c ct) ∧
    exec (.advA0Bm env c ct) s = .next (emitted s env i .batteryMonitor 0x8302 0xA0 c ct) ∧
    exec (.advA3Bm env c ct) s = .next (emitted s env i .batteryMonitor 0x8302 0xA3 c ct)

/-- 42_header_dispatch.md R189, the rows ADV.AC, ADV.A0.AC, ADV.A3.AC: the search with `decode_ac` is emitted.
The row names are the model's reading of the table (log entry 3), the parameters the defaults of R7 (log entry 4). -/
def Obligations.AcChargerFramesEmit : Prop :=
  ∀ (s : State) (env : Envelope) (model c : BitVec 16) (ct : Bytes) (i : Nat), s.fault = false → Fresh s env.mac i c →
    exec (.advAc env model c ct) s = .next (emitted s env i .acCharger model 0x08 c ct) ∧
    exec (.advA0Ac env c ct) s = .next (emitted s env i .acCharger 0x2E00 0xA0 c ct) ∧
    exec (.advA3Ac env c ct) s = .next (emitted s env i .acCharger 0x2E00 0xA3 c ct)

/-- 42_header_dispatch.md R189, the rows ADV.DCEM, ADV.OTHERMODE and ADV.OTHERMARKER: their skips (60_exceptions.md R282, R283).
The row names are the model's reading of the table (log entry 3). -/
def Obligations.UnsupportedFramesSkip : Prop :=
  ∀ (s : State) (env : Envelope) (marker mode : Byte) (model c : BitVec 16) (ct : Bytes), s.fault = false →
    exec (.advDcem env model c ct) s =
      .next (emptied s { withHeader env 0 model 0x0D c ct.length with rStatus := 0x03 }) ∧
    exec (.advOthermode env model mode c ct) s =
      .next (emptied s { withHeader env 0 model mode c ct.length with rStatus := 0x03 }) ∧
    exec (.advOthermarker env marker model mode c ct) s = .next (emptied s { begun env with rStatus := 0x02 })

/-- 42_header_dispatch.md R189: the ADV row a frame selects does what a DECODE of the frame does, in every state.
The row names are the model's reading of the table (log entry 3). -/
def Obligations.AdvRowsRefineDecode : Prop :=
  ∀ (s : State) (env : Envelope) (raw : Bytes), exec (selectRow env raw) s = exec (.decode env raw) s

/-- 44_offset_search_decode.md R251: of two DECODEs for the same MAC with frames of the same counter the first emits and the
second is `SKIP_DUPLICATE`; a third, with another counter, emits, and so would it right after the first. -/
def Obligations.DuplicatesAreSuppressed : Prop :=
  ∀ (s : State) (env env2 env3 : Envelope) (raw raw2 raw3 : Bytes) (k k2 k3 : RecordKind) (i : Nat), s.fault = false →
    Decodable raw k → Decodable raw2 k2 → Decodable raw3 k3 → env2.mac = env.mac → env3.mac = env.mac →
    Fresh s env.mac i (counterOf raw) → counterOf raw2 = counterOf raw → counterOf raw3 ≠ counterOf raw →
    ∃ t u v w, exec (.decode env raw) s = .next t ∧ t.res.rStatus = 0x00 ∧ t.res.rEmit = true ∧
      exec (.decode env2 raw2) t = .next u ∧ u.res.rStatus = 0x05 ∧ u.res.rEmit = false ∧ u.slots = t.slots ∧
      exec (.decode env3 raw3) u = .next v ∧ v.res.rStatus = 0x00 ∧ v.res.rEmit = true ∧
      exec (.decode env3 raw3) t = .next w ∧ w.res.rStatus = 0x00 ∧ w.res.rEmit = true

/-- 10_state.md R33: `R_EMIT` is 1 exactly when the last command was a DECODE that ended with status OK; a malformed command
leaves it 0. -/
def Obligations.EmitMarksDecodeWithStatusOk : Prop :=
  (∀ (i : Instr) (s t : State), s.Inv → exec i s = .next t →
    (t.res.rEmit = true ↔ IsDecode i ∧ t.res.rStatus = 0x00)) ∧
  (∀ s t : State, s.Inv → execMalformed s = .next t → t.res.rEmit = false)

/-- 44_offset_search_decode.md R252: DECODE reads its operands and the slot it looks up, nothing else: from two states in which
that slot is the same it leaves the same result registers and the same slot. It writes the result registers, the emptied
reader, and that slot's `seen` and `last_ctr`, nothing else. -/
def Obligations.DecodeIsPure : Prop :=
  (∀ (s s' t t' : State) (env : Envelope) (raw : Bytes), s.fault = false → s'.fault = false →
    (lookup s.slots env.mac).map s.slot = (lookup s'.slots env.mac).map s'.slot →
    exec (.decode env raw) s = .next t → exec (.decode env raw) s' = .next t' →
    t.res = t'.res ∧ (lookup s.slots env.mac).map t.slot = (lookup s'.slots env.mac).map t'.slot) ∧
  (∀ (s t : State) (env : Envelope) (raw : Bytes), s.fault = false → exec (.decode env raw) s = .next t →
    t = { emptied s t.res with slots := t.slots } ∧ t.slots.length = s.slots.length ∧
    ∀ j, (lookup s.slots env.mac ≠ some j → t.slot j = s.slot j) ∧
      t.slot j = { s.slot j with seen := (t.slot j).seen, lastCtr := (t.slot j).lastCtr })

/-- 45_host_commands.md R272: the RSSI operand reaches `R_RSSI_V` and `R_RSSI` and nothing else. -/
def Obligations.RssiIsNotExamined : Prop :=
  ∀ (s t t' : State) (mac : Mac) (v v' : Bool) (x x' : Byte) (raw : Bytes), s.fault = false →
    exec (.decode ⟨mac, v, x⟩ raw) s = .next t → exec (.decode ⟨mac, v', x'⟩ raw) s = .next t' →
    t' = { t with res := { t.res with rRssiV := v', rRssi := if v' then x' else 0 } }

/-! ### Keys -/

/-- 45_host_commands.md R262: KEYLOAD, its three configuration errors in order, and the slot it takes. -/
def Obligations.KeyloadProvisions : Prop :=
  ∀ (s : State) (mac : Mac) (kbytes : Bytes), s.fault = false →
    (kbytes.length ≠ 16 → exec (.keyload mac kbytes) s = .next { s with res := { Results.zero with rStatus := 0x10 } }) ∧
    (kbytes.length = 16 → (∃ sl ∈ s.slots, sl.used = true ∧ sl.mac = mac) →
      exec (.keyload mac kbytes) s = .next { s with res := { Results.zero with rStatus := 0x11 } }) ∧
    (kbytes.length = 16 → (∀ sl ∈ s.slots, sl.used = true ∧ sl.mac ≠ mac) →
      exec (.keyload mac kbytes) s = .next { s with res := { Results.zero with rStatus := 0x12 } }) ∧
    (∀ i, kbytes.length = 16 → (∀ sl ∈ s.slots, sl.used = true → sl.mac ≠ mac) → i < s.slots.length →
      (s.slot i).used = false → (∀ j, j < i → (s.slot j).used = true) →
      exec (.keyload mac kbytes) s = .next { s with
        slots := s.slots.set i ⟨true, mac, true, blockOf fun n => kbytes.getD n 0, false, 0⟩,
        res := { Results.zero with rMac := mac } })

/-- 45_host_commands.md R263: no command but a DECODE lets a key in a slot reach the result registers or the bit reader. -/
def Obligations.KeysStayHidden : Prop :=
  ∀ (i : Instr) (s t t' : State) (keys : Nat → Block), ¬ IsDecode i → exec i s = .next t →
    exec i (withKeys s keys) = .next t' →
    t'.res = t.res ∧ t'.brBuf = t.brBuf ∧ t'.brLen = t.brLen ∧ t'.brCur = t.brCur ∧ t'.fault = t.fault
end

