-- ==== Sys2Proof/Laws/Encoding.lean ====
section
/-! SUPPORT. One specification lemma per helper of the decoder and the encoder, and per operand check: byte order, counted
byte strings, lengths, parameters. -/

namespace Sys2Proof

/-! ### The parameters -/

@[simp] theorem params_nSlots : Config.params.nSlots = 3 := by decide
@[simp] theorem params_bufMax : Config.params.bufMax = 31 := by decide
@[simp] theorem params_ctrInc : Config.params.ctrInc = .be128 := by decide
@[simp] theorem params_subhdrSkipBits : Config.params.subhdrSkipBits = 0 := by decide
@[simp] theorem params_acBankOrder : Config.params.acBankOrder = .grouped := by decide
@[simp] theorem params_vMinCv : Config.params.vMinCv = 1000 := by decide
@[simp] theorem params_vMaxCv : Config.params.vMaxCv = 15000 := by decide
@[simp] theorem params_iMaxA : Config.params.iMaxA = 1000 := by decide

/-! ### The operand checks -/

theorem fitsLengthByte_iff {b : Bytes} : fitsLengthByte b = true ↔ b.length ≤ 255 := decide_eq_true_iff

theorem fitsBuffer_iff {b : Bytes} : fitsBuffer b = true ↔ b.length ≤ 31 := decide_eq_true_iff

theorem frameFits_iff {ct : Bytes} : frameFits ct = true ↔ 6 + ct.length ≤ 31 := decide_eq_true_iff

/-! ### Byte order -/

theorem le16_toNat (lo hi : Byte) : (le16 lo hi).toNat = lo.toNat + 256 * hi.toNat := by
  have e : (le16 lo hi).toNat = hi.toNat <<< 8 ||| lo.toNat := BitVec.toNat_append ..
  have h : lo.toNat < 2 ^ 8 := lo.isLt
  rw [e, Nat.shiftLeft_eq, Nat.mul_comm, ← Nat.two_pow_add_eq_or_of_lt h]
  omega

/-- The bytes of a 16-bit integer, put together again, are the integer. -/
theorem le16_extract (v : BitVec 16) : le16 (v.extractLsb' 0 8) (v.extractLsb' 8 8) = v := by
  apply BitVec.eq_of_toNat_eq
  have := v.isLt
  rw [le16_toNat, BitVec.extractLsb'_toNat, BitVec.extractLsb'_toNat, Nat.shiftRight_eq_div_pow,
    Nat.shiftRight_eq_div_pow]
  omega

/-- The bytes of two bytes put together are the two bytes. -/
theorem bytes16_le16 (lo hi : Byte) : bytes16 (le16 lo hi) = [lo, hi] := by
  have h1 := lo.isLt
  have h2 := hi.isLt
  have e1 : (le16 lo hi).extractLsb' 0 8 = lo := by
    apply BitVec.eq_of_toNat_eq
    rw [BitVec.extractLsb'_toNat, le16_toNat, Nat.shiftRight_eq_div_pow]
    omega
  have e2 : (le16 lo hi).extractLsb' 8 8 = hi := by
    apply BitVec.eq_of_toNat_eq
    rw [BitVec.extractLsb'_toNat, le16_toNat, Nat.shiftRight_eq_div_pow]
    omega
  rw [bytes16, e1, e2]

/-! ### Counted byte strings -/

/-- Reading a counted byte string back, whatever follows it. -/
theorem takeCounted_append (b rest : Bytes) (h : b.length ≤ 255) :
    takeCounted (lengthByte b :: (b ++ rest)) = some (b, rest) := by
  have e : (lengthByte b).toNat = b.length := by simp [lengthByte]; omega
  simp [takeCounted, e]

theorem takeCounted_counted (b : Bytes) (h : b.length ≤ 255) : takeCounted (counted b) = some (b, []) := by
  simpa [counted] using takeCounted_append b [] h

/-- Everything `takeCounted` can answer: the string and the rest of a string that has them. -/
theorem takeCounted_eq_some {bs b rest : Bytes} (h : takeCounted bs = some (b, rest)) :
    bs = lengthByte b :: (b ++ rest) ∧ b.length ≤ 255 := by
  cases bs with
  | nil => simp [takeCounted] at h
  | cons n r =>
    simp only [takeCounted] at h
    split at h
    · rename_i hn
      injection h with h
      injection h with h1 h2
      subst h1 h2
      have := n.isLt
      refine ⟨?_, by simp; omega⟩
      rw [List.take_append_drop]
      congr 1
      apply BitVec.eq_of_toNat_eq
      simp [lengthByte, Nat.min_eq_left hn]
    · cases h

/-! ### Frames -/

theorem length_encodeFrame (marker : Byte) (model : BitVec 16) (mode : Byte) (counter : BitVec 16) (ct : Bytes) :
    (encodeFrame marker model mode counter ct).length = 6 + ct.length := by
  simp [encodeFrame, bytes16]
  omega

theorem length_encodeDecode (env : Envelope) (raw : Bytes) : (encodeDecode env raw).length = 10 + raw.length := by
  simp [encodeDecode, Mac.toBytes, counted]
  omega

/-! ### The decoder's choices -/

/-- Everything the decoder can do with a nonempty string: the decoder of its opcode, or the rejection of an unknown one. -/
theorem decodeCommand_cases (op : Byte) (rest : Bytes) :
    (op = 0x00 ∧ decodeCommand (op :: rest) = decodeReset rest) ∨
    (op = 0x01 ∧ decodeCommand (op :: rest) = decodeKeyload rest) ∨
    (op = 0x02 ∧ decodeCommand (op :: rest) = decodeDecode rest) ∨
    (op = 0x03 ∧ decodeCommand (op :: rest) = decodeCtrcrypt rest) ∨
    (op = 0x04 ∧ decodeCommand (op :: rest) = decodeString .bropen rest) ∨
    (op = 0x05 ∧ decodeCommand (op :: rest) = decodeByte .brcan rest) ∨
    (op = 0x06 ∧ decodeCommand (op :: rest) = decodeByte .brreadu rest) ∨
    (op = 0x07 ∧ decodeCommand (op :: rest) = decodeByte .brreads rest) ∨
    (op = 0x08 ∧ decodeCommand (op :: rest) = decodeString .parsehdr rest) ∨
    (op = 0x09 ∧ decodeCommand (op :: rest) = decodeClassify rest) ∨
    (op = 0x0A ∧ decodeCommand (op :: rest) = decodeDecrec rest) ∨
    (0x0B ≤ op.toNat ∧ decodeCommand (op :: rest) = .error .unknownOpcode) := by
  by_cases h : 0x0B ≤ op.toNat
  · have hne : ∀ k : Byte, k.toNat < 0x0B → op ≠ k := fun k hk e => by subst e; omega
    refine .inr <| .inr <| .inr <| .inr <| .inr <| .inr <| .inr <| .inr <| .inr <| .inr <| .inr ⟨h, ?_⟩
    rw [decodeCommand, if_neg (hne _ (by decide)), if_neg (hne _ (by decide)), if_neg (hne _ (by decide)),
      if_neg (hne _ (by decide)), if_neg (hne _ (by decide)), if_neg (hne _ (by decide)), if_neg (hne _ (by decide)),
      if_neg (hne _ (by decide)), if_neg (hne _ (by decide)), if_neg (hne _ (by decide)), if_neg (hne _ (by decide))]
  · have e : op = BitVec.ofNat 8 op.toNat := by simp
    generalize op.toNat = n at h e
    subst e
    interval_cases n
    · exact .inl ⟨rfl, rfl⟩
    · exact .inr <| .inl ⟨rfl, rfl⟩
    · exact .inr <| .inr <| .inl ⟨rfl, rfl⟩
    · exact .inr <| .inr <| .inr <| .inl ⟨rfl, rfl⟩
    · exact .inr <| .inr <| .inr <| .inr <| .inl ⟨rfl, rfl⟩
    · exact .inr <| .inr <| .inr <| .inr <| .inr <| .inl ⟨rfl, rfl⟩
    · exact .inr <| .inr <| .inr <| .inr <| .inr <| .inr <| .inl ⟨rfl, rfl⟩
    · exact .inr <| .inr <| .inr <| .inr <| .inr <| .inr <| .inr <| .inl ⟨rfl, rfl⟩
    · exact .inr <| .inr <| .inr <| .inr <| .inr <| .inr <| .inr <| .inr <| .inl ⟨rfl, rfl⟩
    · exact .inr <| .inr <| .inr <| .inr <| .inr <| .inr <| .inr <| .inr <| .inr <| .inl ⟨rfl, rfl⟩
    · exact .inr <| .inr <| .inr <| .inr <| .inr <| .inr <| .inr <| .inr <| .inr <| .inr <| .inl ⟨rfl, rfl⟩

/-- Everything `selectAdv` can answer: the row of a named mode, or a catch-all row when no specific one matches. -/
theorem selectAdv_cases (env : Envelope) (marker : Byte) (model : BitVec 16) (mode : Byte) (c : BitVec 16) (ct : Bytes) :
    (marker ≠ 0x10 ∧ selectAdv env marker model mode c ct = .advOthermarker env marker model mode c ct) ∨
    (marker = 0x10 ∧
      ((mode = 0x01 ∧ selectAdv env marker model mode c ct = .advSolar env model c ct) ∨
       (mode = 0x02 ∧ selectAdv env marker model mode c ct = .advBm env model c ct) ∨
       (mode = 0x08 ∧ selectAdv env marker model mode c ct = .advAc env model c ct) ∨
       (mode = 0x0D ∧ selectAdv env marker model mode c ct = .advDcem env model c ct) ∨
       (mode = 0xA0 ∧ model = 0x6002 ∧ selectAdv env marker model mode c ct = .advA0Solar env c ct) ∨
       (mode = 0xA0 ∧ model = 0x8302 ∧ selectAdv env marker model mode c ct = .advA0Bm env c ct) ∨
       (mode = 0xA0 ∧ model = 0x2E00 ∧ selectAdv env marker model mode c ct = .advA0Ac env c ct) ∨
       (mode = 0xA3 ∧ model = 0x6002 ∧ selectAdv env marker model mode c ct = .advA3Solar env c ct) ∨
       (mode = 0xA3 ∧ model = 0x8302 ∧ selectAdv env marker model mode c ct = .advA3Bm env c ct) ∨
       (mode = 0xA3 ∧ model = 0x2E00 ∧ selectAdv env marker model mode c ct = .advA3Ac env c ct) ∨
       (namedMode model mode = false ∧ selectAdv env marker model mode c ct = .advOthermode env model mode c ct))) := by
  by_cases h : marker = 0x10
  · subst h
    refine .inr ⟨rfl, ?_⟩
    by_cases h1 : mode = 0x01
    · subst h1; exact .inl ⟨rfl, rfl⟩
    by_cases h2 : mode = 0x02
    · subst h2; exact .inr <| .inl ⟨rfl, rfl⟩
    by_cases h3 : mode = 0x08
    · subst h3; exact .inr <| .inr <| .inl ⟨rfl, rfl⟩
    by_cases h4 : mode = 0x0D
    · subst h4; exact .inr <| .inr <| .inr <| .inl ⟨rfl, rfl⟩
    by_cases hm : mode = 0xA0 ∨ mode = 0xA3
    · by_cases m1 : model = 0x6002
      · subst m1
        rcases hm with rfl | rfl
        · exact .inr <| .inr <| .inr <| .inr <| .inl ⟨rfl, rfl, rfl⟩
        · exact .inr <| .inr <| .inr <| .inr <| .inr <| .inr <| .inr <| .inl ⟨rfl, rfl, rfl⟩
      by_cases m2 : model = 0x8302
      · subst m2
        rcases hm with rfl | rfl
        · exact .inr <| .inr <| .inr <| .inr <| .inr <| .inl ⟨rfl, rfl, rfl⟩
        · exact .inr <| .inr <| .inr <| .inr <| .inr <| .inr <| .inr <| .inr <| .inl ⟨rfl, rfl, rfl⟩
      by_cases m3 : model = 0x2E00
      · subst m3
        rcases hm with rfl | rfl
        · exact .inr <| .inr <| .inr <| .inr <| .inr <| .inr <| .inl ⟨rfl, rfl, rfl⟩
        · exact .inr <| .inr <| .inr <| .inr <| .inr <| .inr <| .inr <| .inr <| .inr <| .inl ⟨rfl, rfl, rfl⟩
      refine .inr <| .inr <| .inr <| .inr <| .inr <| .inr <| .inr <| .inr <| .inr <| .inr ⟨?_, ?_⟩
      · simp only [namedMode, beq_eq_false_iff_ne.2 h1, beq_eq_false_iff_ne.2 h2, beq_eq_false_iff_ne.2 h3,
          beq_eq_false_iff_ne.2 h4, beq_eq_false_iff_ne.2 m1, beq_eq_false_iff_ne.2 m2, beq_eq_false_iff_ne.2 m3,
          Bool.or_false, Bool.and_false]
      · rw [selectAdv, if_neg (fun hne => hne rfl), if_neg h1, if_neg h2, if_neg h3, if_neg h4, if_neg fun e => m1 e.2,
          if_neg fun e => m2 e.2, if_neg fun e => m3 e.2, if_neg fun e => m1 e.2, if_neg fun e => m2 e.2,
          if_neg fun e => m3 e.2]
    · obtain ⟨a0, a3⟩ := not_or.1 hm
      refine .inr <| .inr <| .inr <| .inr <| .inr <| .inr <| .inr <| .inr <| .inr <| .inr ⟨?_, ?_⟩
      · simp only [namedMode, beq_eq_false_iff_ne.2 h1, beq_eq_false_iff_ne.2 h2, beq_eq_false_iff_ne.2 h3,
          beq_eq_false_iff_ne.2 h4, beq_eq_false_iff_ne.2 a0, beq_eq_false_iff_ne.2 a3, Bool.or_false, Bool.false_and]
      · rw [selectAdv, if_neg (fun hne => hne rfl), if_neg h1, if_neg h2, if_neg h3, if_neg h4, if_neg fun e => a0 e.1,
          if_neg fun e => a0 e.1, if_neg fun e => a0 e.1, if_neg fun e => a3 e.1, if_neg fun e => a3 e.1,
          if_neg fun e => a3 e.1]
  · exact .inl ⟨h, if_pos h⟩
end Sys2Proof
end

