-- ==== Sys2Proof/Laws/State.lean ====
section
/-! SUPPORT. One lemma per field of State per update of it, each true by rfl: no later proof unfolds a record update. -/

namespace Sys2Proof.Machine

variable (s : State)

/-! ### raise -/

@[simp] theorem State.raise_slots (st : Status) : (s.raise st).slots = s.slots := rfl
@[simp] theorem State.raise_fault (st : Status) : (s.raise st).fault = (s.fault || st.sticky) := rfl
@[simp] theorem State.raise_faultCode (st : Status) : (s.raise st).faultCode = (if st.sticky then st.code else s.faultCode) := rfl
@[simp] theorem State.raise_brBuf (st : Status) : (s.raise st).brBuf = s.brBuf := rfl
@[simp] theorem State.raise_brLen (st : Status) : (s.raise st).brLen = s.brLen := rfl
@[simp] theorem State.raise_brCur (st : Status) : (s.raise st).brCur = s.brCur := rfl
@[simp] theorem State.raise_res (st : Status) : (s.raise st).res = { s.res with rStatus := st.code } := rfl
@[simp] theorem State.raise_port (st : Status) : (s.raise st).port = s.port := rfl

/-! ### refuseFaulted -/

@[simp] theorem State.refuseFaulted_slots : (s.refuseFaulted).slots = s.slots := rfl
@[simp] theorem State.refuseFaulted_fault : (s.refuseFaulted).fault = s.fault := rfl
@[simp] theorem State.refuseFaulted_faultCode : (s.refuseFaulted).faultCode = s.faultCode := rfl
@[simp] theorem State.refuseFaulted_brBuf : (s.refuseFaulted).brBuf = s.brBuf := rfl
@[simp] theorem State.refuseFaulted_brLen : (s.refuseFaulted).brLen = s.brLen := rfl
@[simp] theorem State.refuseFaulted_brCur : (s.refuseFaulted).brCur = s.brCur := rfl
@[simp] theorem State.refuseFaulted_res : (s.refuseFaulted).res = { s.res with rStatus := Status.faulted.code } := rfl
@[simp] theorem State.refuseFaulted_port : (s.refuseFaulted).port = s.port := rfl

/-! ### clearResults -/

@[simp] theorem State.clearResults_slots : (s.clearResults).slots = s.slots := rfl
@[simp] theorem State.clearResults_fault : (s.clearResults).fault = s.fault := rfl
@[simp] theorem State.clearResults_faultCode : (s.clearResults).faultCode = s.faultCode := rfl
@[simp] theorem State.clearResults_brBuf : (s.clearResults).brBuf = s.brBuf := rfl
@[simp] theorem State.clearResults_brLen : (s.clearResults).brLen = s.brLen := rfl
@[simp] theorem State.clearResults_brCur : (s.clearResults).brCur = s.brCur := rfl
@[simp] theorem State.clearResults_res : (s.clearResults).res = Results.zero := rfl
@[simp] theorem State.clearResults_port : (s.clearResults).port = s.port := rfl

/-! ### openReader -/

@[simp] theorem State.openReader_slots (bytes : Bytes) : (s.openReader bytes).slots = s.slots := rfl
@[simp] theorem State.openReader_fault (bytes : Bytes) : (s.openReader bytes).fault = s.fault := rfl
@[simp] theorem State.openReader_faultCode (bytes : Bytes) : (s.openReader bytes).faultCode = s.faultCode := rfl
@[simp] theorem State.openReader_brBuf (bytes : Bytes) : (s.openReader bytes).brBuf = bytes := rfl
@[simp] theorem State.openReader_brLen (bytes : Bytes) : (s.openReader bytes).brLen = bytes.length := rfl
@[simp] theorem State.openReader_brCur (bytes : Bytes) : (s.openReader bytes).brCur = 0 := rfl
@[simp] theorem State.openReader_res (bytes : Bytes) : (s.openReader bytes).res = s.res := rfl
@[simp] theorem State.openReader_port (bytes : Bytes) : (s.openReader bytes).port = s.port := rfl

/-! ### emptyReader -/

@[simp] theorem State.emptyReader_slots : (s.emptyReader).slots = s.slots := rfl
@[simp] theorem State.emptyReader_fault : (s.emptyReader).fault = s.fault := rfl
@[simp] theorem State.emptyReader_faultCode : (s.emptyReader).faultCode = s.faultCode := rfl
@[simp] theorem State.emptyReader_brBuf : (s.emptyReader).brBuf = [] := rfl
@[simp] theorem State.emptyReader_brLen : (s.emptyReader).brLen = 0 := rfl
@[simp] theorem State.emptyReader_brCur : (s.emptyReader).brCur = 0 := rfl
@[simp] theorem State.emptyReader_res : (s.emptyReader).res = s.res := rfl
@[simp] theorem State.emptyReader_port : (s.emptyReader).port = s.port := rfl

/-! ### setSlot -/

@[simp] theorem State.setSlot_slots (i : Nat) (sl : Slot) : (s.setSlot i sl).slots = s.slots.set i sl := rfl
@[simp] theorem State.setSlot_fault (i : Nat) (sl : Slot) : (s.setSlot i sl).fault = s.fault := rfl
@[simp] theorem State.setSlot_faultCode (i : Nat) (sl : Slot) : (s.setSlot i sl).faultCode = s.faultCode := rfl
@[simp] theorem State.setSlot_brBuf (i : Nat) (sl : Slot) : (s.setSlot i sl).brBuf = s.brBuf := rfl
@[simp] theorem State.setSlot_brLen (i : Nat) (sl : Slot) : (s.setSlot i sl).brLen = s.brLen := rfl
@[simp] theorem State.setSlot_brCur (i : Nat) (sl : Slot) : (s.setSlot i sl).brCur = s.brCur := rfl
@[simp] theorem State.setSlot_res (i : Nat) (sl : Slot) : (s.setSlot i sl).res = s.res := rfl
@[simp] theorem State.setSlot_port (i : Nat) (sl : Slot) : (s.setSlot i sl).port = s.port := rfl

/-! ### setRes -/

@[simp] theorem State.setRes_slots (f : Results → Results) : (s.setRes f).slots = s.slots := rfl
@[simp] theorem State.setRes_fault (f : Results → Results) : (s.setRes f).fault = s.fault := rfl
@[simp] theorem State.setRes_faultCode (f : Results → Results) : (s.setRes f).faultCode = s.faultCode := rfl
@[simp] theorem State.setRes_brBuf (f : Results → Results) : (s.setRes f).brBuf = s.brBuf := rfl
@[simp] theorem State.setRes_brLen (f : Results → Results) : (s.setRes f).brLen = s.brLen := rfl
@[simp] theorem State.setRes_brCur (f : Results → Results) : (s.setRes f).brCur = s.brCur := rfl
@[simp] theorem State.setRes_res (f : Results → Results) : (s.setRes f).res = f s.res := rfl
@[simp] theorem State.setRes_port (f : Results → Results) : (s.setRes f).port = s.port := rfl

/-! ### toReset -/

@[simp] theorem State.toReset_slots : (s.toReset).slots = List.replicate Config.params.nSlots Slot.empty := rfl
@[simp] theorem State.toReset_fault : (s.toReset).fault = false := rfl
@[simp] theorem State.toReset_faultCode : (s.toReset).faultCode = 0 := rfl
@[simp] theorem State.toReset_brBuf : (s.toReset).brBuf = [] := rfl
@[simp] theorem State.toReset_brLen : (s.toReset).brLen = 0 := rfl
@[simp] theorem State.toReset_brCur : (s.toReset).brCur = 0 := rfl
@[simp] theorem State.toReset_res : (s.toReset).res = Results.zero := rfl
@[simp] theorem State.toReset_port : (s.toReset).port = s.port := rfl

/-! ### recordHeader -/

@[simp] theorem State.recordHeader_slots (f : Frame) : (s.recordHeader f).slots = s.slots := rfl
@[simp] theorem State.recordHeader_fault (f : Frame) : (s.recordHeader f).fault = s.fault := rfl
@[simp] theorem State.recordHeader_faultCode (f : Frame) : (s.recordHeader f).faultCode = s.faultCode := rfl
@[simp] theorem State.recordHeader_brBuf (f : Frame) : (s.recordHeader f).brBuf = s.brBuf := rfl
@[simp] theorem State.recordHeader_brLen (f : Frame) : (s.recordHeader f).brLen = s.brLen := rfl
@[simp] theorem State.recordHeader_brCur (f : Frame) : (s.recordHeader f).brCur = s.brCur := rfl
@[simp] theorem State.recordHeader_res (f : Frame) : (s.recordHeader f).res = { s.res with rModel := f.modelId, rMode := f.mode, rCtr := f.counter, rCtlen := lengthByte f.ciphertext } := rfl
@[simp] theorem State.recordHeader_port (f : Frame) : (s.recordHeader f).port = s.port := rfl

/-! ### beginDecode -/

@[simp] theorem State.beginDecode_slots (env : Envelope) : (s.beginDecode env).slots = s.slots := rfl
@[simp] theorem State.beginDecode_fault (env : Envelope) : (s.beginDecode env).fault = s.fault := rfl
@[simp] theorem State.beginDecode_faultCode (env : Envelope) : (s.beginDecode env).faultCode = s.faultCode := rfl
@[simp] theorem State.beginDecode_brBuf (env : Envelope) : (s.beginDecode env).brBuf = [] := rfl
@[simp] theorem State.beginDecode_brLen (env : Envelope) : (s.beginDecode env).brLen = 0 := rfl
@[simp] theorem State.beginDecode_brCur (env : Envelope) : (s.beginDecode env).brCur = 0 := rfl
@[simp] theorem State.beginDecode_res (env : Envelope) : (s.beginDecode env).res = { s.res with rMac := env.mac, rRssiV := env.rssiValid, rRssi := if env.rssiValid then env.rssi else 0 } := rfl
@[simp] theorem State.beginDecode_port (env : Envelope) : (s.beginDecode env).port = s.port := rfl

/-! ### deliver -/

@[simp] theorem State.deliver_slots (i : Nat) (counter : BitVec 16) (found : SearchResult) : (s.deliver i counter found).slots = s.slots.set i { s.slot i with seen := true, lastCtr := counter } := rfl
@[simp] theorem State.deliver_fault (i : Nat) (counter : BitVec 16) (found : SearchResult) : (s.deliver i counter found).fault = s.fault := rfl
@[simp] theorem State.deliver_faultCode (i : Nat) (counter : BitVec 16) (found : SearchResult) : (s.deliver i counter found).faultCode = s.faultCode := rfl
@[simp] theorem State.deliver_brBuf (i : Nat) (counter : BitVec 16) (found : SearchResult) : (s.deliver i counter found).brBuf = s.brBuf := rfl
@[simp] theorem State.deliver_brLen (i : Nat) (counter : BitVec 16) (found : SearchResult) : (s.deliver i counter found).brLen = s.brLen := rfl
@[simp] theorem State.deliver_brCur (i : Nat) (counter : BitVec 16) (found : SearchResult) : (s.deliver i counter found).brCur = s.brCur := rfl
@[simp] theorem State.deliver_res (i : Nat) (counter : BitVec 16) (found : SearchResult) : (s.deliver i counter found).res = { s.res with fields := found.reading, rOffset := BitVec.ofNat 3 found.offset, rPlaus := found.plaus, rEmit := true } := rfl
@[simp] theorem State.deliver_port (i : Nat) (counter : BitVec 16) (found : SearchResult) : (s.deliver i counter found).port = s.port := rfl

/-! ### provision -/

@[simp] theorem State.provision_slots (i : Nat) (mac : Mac) (key : Block) : (s.provision i mac key).slots = s.slots.set i { used := true, mac := mac, keyOk := true, key := key, seen := false, lastCtr := 0 } := rfl
@[simp] theorem State.provision_fault (i : Nat) (mac : Mac) (key : Block) : (s.provision i mac key).fault = s.fault := rfl
@[simp] theorem State.provision_faultCode (i : Nat) (mac : Mac) (key : Block) : (s.provision i mac key).faultCode = s.faultCode := rfl
@[simp] theorem State.provision_brBuf (i : Nat) (mac : Mac) (key : Block) : (s.provision i mac key).brBuf = s.brBuf := rfl
@[simp] theorem State.provision_brLen (i : Nat) (mac : Mac) (key : Block) : (s.provision i mac key).brLen = s.brLen := rfl
@[simp] theorem State.provision_brCur (i : Nat) (mac : Mac) (key : Block) : (s.provision i mac key).brCur = s.brCur := rfl
@[simp] theorem State.provision_res (i : Nat) (mac : Mac) (key : Block) : (s.provision i mac key).res = { s.res with rMac := mac } := rfl
@[simp] theorem State.provision_port (i : Nat) (mac : Mac) (key : Block) : (s.provision i mac key).port = s.port := rfl

/-! ### issueFirst -/

@[simp] theorem State.issueFirst_slots (cmd : Bytes) : (s.issueFirst cmd).slots = s.slots := rfl
@[simp] theorem State.issueFirst_fault (cmd : Bytes) : (s.issueFirst cmd).fault = s.fault := rfl
@[simp] theorem State.issueFirst_faultCode (cmd : Bytes) : (s.issueFirst cmd).faultCode = s.faultCode := rfl
@[simp] theorem State.issueFirst_brBuf (cmd : Bytes) : (s.issueFirst cmd).brBuf = s.brBuf := rfl
@[simp] theorem State.issueFirst_brLen (cmd : Bytes) : (s.issueFirst cmd).brLen = s.brLen := rfl
@[simp] theorem State.issueFirst_brCur (cmd : Bytes) : (s.issueFirst cmd).brCur = s.brCur := rfl
@[simp] theorem State.issueFirst_res (cmd : Bytes) : (s.issueFirst cmd).res = s.res := rfl
@[simp] theorem State.issueFirst_port (cmd : Bytes) : (s.issueFirst cmd).port = cmd :: s.port := rfl

/-! ### Derived reads -/

@[simp] theorem State.slot_setRes (f : Results → Results) (i : Nat) : (s.setRes f).slot i = s.slot i := rfl
@[simp] theorem State.slot_clearResults (i : Nat) : s.clearResults.slot i = s.slot i := rfl
@[simp] theorem State.slot_emptyReader (i : Nat) : s.emptyReader.slot i = s.slot i := rfl
@[simp] theorem State.slot_raise (st : Status) (i : Nat) : (s.raise st).slot i = s.slot i := rfl
@[simp] theorem State.slot_recordHeader (f : Frame) (i : Nat) : (s.recordHeader f).slot i = s.slot i := rfl
@[simp] theorem State.slot_beginDecode (env : Envelope) (i : Nat) : (s.beginDecode env).slot i = s.slot i := rfl

end Sys2Proof.Machine
end

