-- ==== Sys2Proof/Laws/Ops.lean ====
section
/-! SUPPORT. One specification lemma per shared operation: what it answers, said once, for later proofs to cite instead of
unfolding the operation. -/

namespace Sys2Proof.Machine

/-! ### The frame of a command -/

/-- Everything `accept` can answer: always a next state, the refusal of a faulted block or the rule on cleared results. -/
theorem State.accept_eq (s : State) (rule : State → State) :
    s.accept rule = .next (if s.fault then s.refuseFaulted else rule s.clearResults) := rfl

theorem State.accept_of_usable {s : State} (h : s.fault = false) (rule : State → State) :
    s.accept rule = .next (rule s.clearResults) := by simp [State.accept, h]

theorem State.accept_of_faulted {s : State} (h : s.fault = true) (rule : State → State) :
    s.accept rule = .next s.refuseFaulted := by simp [State.accept, h]

theorem State.accept_cases {s t : State} {rule : State → State} (h : s.accept rule = .next t) :
    (s.fault = true ∧ t = s.refuseFaulted) ∨ (s.fault = false ∧ t = rule s.clearResults) := by
  cases hf : s.fault <;> simp [State.accept, hf] at h <;> simp [h]

/-- A raise that is not sticky writes `R_STATUS` and nothing else. -/
theorem State.raise_of_not_sticky (s : State) {st : Status} (h : st.sticky = false) :
    s.raise st = { s with res := { s.res with rStatus := st.code } } := by
  simp [State.raise, h]

/-- A sticky raise also sets `FAULT` and `FAULT_CODE`. -/
theorem State.raise_of_sticky (s : State) {st : Status} (h : st.sticky = true) :
    s.raise st = { s with fault := true, faultCode := st.code, res := { s.res with rStatus := st.code } } := by
  simp [State.raise, h]

/-! ### The slot table -/

/-- What `lookup` finds: a used slot of that MAC, and no earlier one. -/
theorem lookup_eq_some {slots : List Slot} {mac : Mac} {i : Nat} :
    lookup slots mac = some i ↔
      ∃ h : i < slots.length, slots[i].used = true ∧ slots[i].mac = mac ∧
        ∀ j, (hj : j < i) → slots[j].used = true → slots[j].mac ≠ mac := by
  simp [lookup, List.findIdx?_eq_some_iff_getElem, and_assoc]

/-- When `lookup` finds nothing: no used slot has that MAC. -/
theorem lookup_eq_none {slots : List Slot} {mac : Mac} :
    lookup slots mac = none ↔ ∀ sl ∈ slots, sl.used = true → sl.mac ≠ mac := by
  simp [lookup, List.findIdx?_eq_none_iff]

/-- What `firstFree` finds: the least unused slot. -/
theorem firstFree_eq_some {slots : List Slot} {i : Nat} :
    firstFree slots = some i ↔
      ∃ h : i < slots.length, slots[i].used = false ∧ ∀ j, (hj : j < i) → slots[j].used = true := by
  simp [firstFree, List.findIdx?_eq_some_iff_getElem]

/-- When `firstFree` finds nothing: every slot is used. -/
theorem firstFree_eq_none {slots : List Slot} : firstFree slots = none ↔ ∀ sl ∈ slots, sl.used = true := by
  simp [firstFree, List.findIdx?_eq_none_iff]

theorem State.slot_of_lt (s : State) {i : Nat} (h : i < s.slots.length) : s.slot i = s.slots[i] := by
  simp [State.slot, h]

/-! ### Bits and fields -/

theorem bitAt_lt (b : Bytes) (p : Nat) : bitAt b p < 2 := Nat.mod_lt _ (by decide)

/-- A bit field of `n` bits is below `2^n`. -/
theorem bitRead_lt (buf : Bytes) (p n : Nat) : bitRead buf p n < 2 ^ n := by
  induction n generalizing p with
  | zero => simp [bitRead]
  | succ n ih =>
    have hb := bitAt_lt buf p
    have := ih (p + 1)
    simp only [bitRead, Nat.pow_succ]
    omega

/-- The two ways a bit-field read ends: a sticky fault that leaves the reader, or the value and the cursor's advance. -/
theorem State.bitFieldRead_cases (s : State) (n : Nat) (result : Nat → BitVec 32) :
    (legalWidth n = false ∧ s.bitFieldRead n result = s.raise .faultBrWidth) ∨
    (legalWidth n = true ∧ canRead s.brLen s.brCur n = false ∧ s.bitFieldRead n result = s.raise .faultBrExhausted) ∨
    (legalWidth n = true ∧ canRead s.brLen s.brCur n = true ∧
      s.bitFieldRead n result =
        { s with brCur := s.brCur + n, res := { s.res with rVal := result (bitRead s.brBuf s.brCur n) } }) := by
  cases hw : legalWidth n <;> cases hc : canRead s.brLen s.brCur n <;> simp [State.bitFieldRead, hw, hc]

theorem length_readFrom (pt : Bytes) (cur : Nat) (ws : List Nat) : (readFrom pt cur ws).length = ws.length := by
  induction ws generalizing cur with
  | nil => rfl
  | cons w ws ih => simp only [readFrom]; split <;> simp [ih]

/-- `read_fields` answers one element per field of the layout. -/
theorem length_readFields (pt : Bytes) (skip : Nat) (ws : List Nat) : (readFields pt skip ws).length = ws.length := by
  simp only [readFields]; split <;> simp [length_readFrom]

/-- The three ways a field register is written. -/
theorem writeField_cases (sentinel : Option Nat) (value : Nat → Int) (raw : Option Nat) :
    (raw = none ∧ writeField sentinel value raw = FieldReg.zero) ∨
    (∃ r, raw = some r ∧ sentinel = some r ∧ writeField sentinel value raw = ⟨true, false, 0⟩) ∨
    (∃ r, raw = some r ∧ sentinel ≠ some r ∧ writeField sentinel value raw = ⟨true, true, toReg32 (value r)⟩) := by
  cases raw with
  | none => exact .inl ⟨rfl, rfl⟩
  | some r =>
    by_cases h : sentinel = some r
    · exact .inr (.inl ⟨r, rfl, h, by simp [writeField, h]⟩)
    · exact .inr (.inr ⟨r, rfl, h, by simp [writeField, h]⟩)

/-- What the plausibility test says (44_offset_search_decode.md R240). -/
theorem plausible_iff (p : Params) (kind : RecordKind) (f : Fields) :
    plausible p kind f = true ↔
      (voltageReg kind f).v = true ∧ (currentReg kind f).v = true ∧ (p.vMinCv : Int) ≤ (voltageReg kind f).val.toInt ∧
        (voltageReg kind f).val.toInt ≤ p.vMaxCv ∧ (currentReg kind f).val.toInt.natAbs ≤ currentLimit p kind := by
  unfold plausible
  simp only [Bool.and_eq_true, decide_eq_true_iff, and_assoc]

/-! ### The cipher -/

theorem length_toBytes (b : Block) : b.toBytes.length = 16 := rfl

theorem length_keystream (inc : CtrInc) (key : Block) (n : Nat) (cb : Block) : (keystream inc key n cb).length = 16 * n := by
  induction n generalizing cb with
  | zero => rfl
  | succ n ih => simp [keystream, ih, length_toBytes]; omega

/-- The only byte strings that hold a key are those of 16 bytes. -/
theorem keyOfBytes_isSome {bs : Bytes} : (keyOfBytes bs).isSome = true ↔ bs.length = 16 := by
  by_cases h : bs.length = 16 <;> simp [keyOfBytes, h]

/-! ### The transaction -/

/-- Everything stages 5 to 8 of DECODE can do. -/
theorem State.decryptAndDeliver_cases (s : State) (kind : RecordKind) (mac : Mac) (f : Frame) :
    (lookup s.slots mac = none ∧ s.decryptAndDeliver kind mac f = s.raise .skipNoKey) ∨
    ∃ i, lookup s.slots mac = some i ∧
      (((s.slot i).keyOk = false ∧ s.decryptAndDeliver kind mac f = s.raise .skipNoKey) ∨
       ((s.slot i).keyOk = true ∧ isDuplicate (s.slot i) f.counter = true ∧
          s.decryptAndDeliver kind mac f = s.raise .skipDuplicate) ∨
       ((s.slot i).keyOk = true ∧ isDuplicate (s.slot i) f.counter = false ∧
          s.decryptAndDeliver kind mac f =
            s.deliver i f.counter (search Config.params kind (s.slot i).key f.counter f.ciphertext))) := by
  cases hl : lookup s.slots mac with
  | none => simp [State.decryptAndDeliver, hl]
  | some i =>
    cases hk : (s.slot i).keyOk <;> cases hd : isDuplicate (s.slot i) f.counter <;>
      simp [State.decryptAndDeliver, hl, hk, hd]

/-- What a header that does not parse is: too short, or of another marker (42_header_dispatch.md R180). -/
theorem parseHeader_short {raw : Bytes} (h : raw.length < 6) : parseHeader raw = .tooShort := by
  match raw with
  | [] | [_] | [_, _] | [_, _, _] | [_, _, _, _] | [_, _, _, _, _] => rfl
  | _ :: _ :: _ :: _ :: _ :: _ :: _ => simp at h; omega

/-- A byte string of 6 bytes or more has the six header bytes. -/
theorem exists_header {raw : Bytes} (h : 6 ≤ raw.length) :
    ∃ marker m0 m1 mode c0 c1 ct, raw = marker :: m0 :: m1 :: mode :: c0 :: c1 :: ct := by
  match raw with
  | [] | [_] | [_, _] | [_, _, _] | [_, _, _, _] | [_, _, _, _, _] => simp at h
  | a :: b :: c :: d :: e :: f :: ct => exact ⟨a, b, c, d, e, f, ct, rfl⟩

/-! ### A step -/

/-- Every instruction but RESET runs in the common frame, with a rule that does not depend on the state it starts from. -/
theorem exec_accept (i : Instr) (h : i ≠ .reset) : ∃ rule : State → State, ∀ s, exec i s = s.accept rule := by
  cases i
  case reset => exact absurd rfl h
  all_goals
    refine ⟨?_, fun s => ?_⟩
    rotate_left
    · dsimp only [exec, execKeyload, execDecode, execCtrcrypt, execBropen, execBrcan, execBrreadu, execBrreads,
        execParsehdr, execClassify, execDecrec, execAdvSolar, execAdvBm, execAdvAc, execAdvDcem, execAdvA0Solar,
        execAdvA0Bm, execAdvA0Ac, execAdvA3Solar, execAdvA3Bm, execAdvA3Ac, execAdvOthermode, execAdvOthermarker,
        State.acceptFrame]
      rfl

/-- Everything a step can do: nothing without a command, the meaning of the decoded command, or the answer to a malformed
one. -/
theorem step_cases (s : State) :
    (s.port = [] ∧ step s = .next s) ∨
    (∃ cmd rest i, s.port = cmd :: rest ∧ decodeCommand cmd = .ok i ∧ step s = exec i { s with port := rest }) ∨
    (∃ cmd rest e, s.port = cmd :: rest ∧ decodeCommand cmd = .error e ∧ step s = execMalformed { s with port := rest }) := by
  cases hp : s.port with
  | nil => exact .inl ⟨rfl, by simp [step, State.fetch, hp]⟩
  | cons cmd rest =>
    cases hd : decodeCommand cmd with
    | ok i => exact .inr (.inl ⟨cmd, rest, i, rfl, hd, by simp [step, State.fetch, hp, hd]⟩)
    | error e => exact .inr (.inr ⟨cmd, rest, e, rfl, hd, by simp [step, State.fetch, hp, hd]⟩)

/-! ### The bit reader's form is kept (20_memory.md R60, 10_state.md R29, R30) -/

theorem State.readerWf_emptyReader (s : State) : s.emptyReader.ReaderWf := by simp [State.ReaderWf]

theorem State.readerWf_openReader (s : State) {bytes : Bytes} (h : bytes.length ≤ Config.params.bufMax) :
    (s.openReader bytes).ReaderWf := by simpa [State.ReaderWf] using h

theorem State.readerWf_bitFieldRead {s : State} (h : s.ReaderWf) (n : Nat) (result : Nat → BitVec 32) :
    (s.bitFieldRead n result).ReaderWf := by
  obtain ⟨h1, h2, h3⟩ := h
  rcases s.bitFieldRead_cases n result with ⟨_, e⟩ | ⟨_, _, e⟩ | ⟨_, hc, e⟩ <;> rw [e]
  · exact ⟨h1, h2, h3⟩
  · exact ⟨h1, h2, h3⟩
  · exact ⟨h1, h2, by simpa [canRead] using hc⟩

end Sys2Proof.Machine
end

