-- ==== Sys2Proof/Laws/PerInstr.lean ====
section
/-! SUPPORT. The family of statements made per instruction: the length of an encoding is the one the encoding table gives
(30_encoding.md R91, R93). -/

namespace Sys2Proof.Laws.EncodedLength

/-- The total length in bytes of an instruction's command string (30_encoding.md R91; an ADV row's frame has 6 + ciphertext
bytes, R93, inside a DECODE of 10 + rlen). -/
def totalLength : Instr → Nat
  | .reset => 1
  | .keyload _ kbytes => 8 + kbytes.length
  | .decode _ raw => 10 + raw.length
  | .ctrcrypt kbytes _ data => 5 + kbytes.length + data.length
  | .bropen bytes => 2 + bytes.length
  | .brcan _ => 2
  | .brreadu _ => 2
  | .brreads _ => 2
  | .parsehdr raw => 2 + raw.length
  | .classify _ _ => 4
  | .decrec _ pt => 3 + pt.length
  | .advSolar _ _ _ ct => 16 + ct.length
  | .advBm _ _ _ ct => 16 + ct.length
  | .advAc _ _ _ ct => 16 + ct.length
  | .advDcem _ _ _ ct => 16 + ct.length
  | .advA0Solar _ _ ct => 16 + ct.length
  | .advA0Bm _ _ ct => 16 + ct.length
  | .advA0Ac _ _ ct => 16 + ct.length
  | .advA3Solar _ _ ct => 16 + ct.length
  | .advA3Bm _ _ ct => 16 + ct.length
  | .advA3Ac _ _ ct => 16 + ct.length
  | .advOthermode _ _ _ _ ct => 16 + ct.length
  | .advOthermarker _ _ _ _ _ ct => 16 + ct.length

/-- The statement of the family: the encoding has the table's length, and its first byte is the opcode, 2 for an ADV row. -/
def Statement (i : Instr) : Prop :=
  (encode i).length = totalLength i ∧ (i.frame.isSome = true → (encode i).head? = some 0x02)

theorem adv (env : Envelope) (marker : Byte) (model : BitVec 16) (mode : Byte) (counter : BitVec 16) (ct : Bytes) :
    (encodeDecode env (encodeFrame marker model mode counter ct)).length = 16 + ct.length ∧
      (encodeDecode env (encodeFrame marker model mode counter ct)).head? = some 0x02 :=
  ⟨by rw [length_encodeDecode, length_encodeFrame]; omega, rfl⟩

theorem reset : Statement .reset := ⟨rfl, by simp [Instr.frame]⟩
theorem keyload (mac : Mac) (kbytes : Bytes) : Statement (.keyload mac kbytes) :=
  ⟨by simp [encode, totalLength, Mac.toBytes, counted]; omega, by simp [Instr.frame]⟩
theorem decode (env : Envelope) (raw : Bytes) : Statement (.decode env raw) :=
  ⟨length_encodeDecode env raw, by simp [Instr.frame]⟩
theorem ctrcrypt (kbytes : Bytes) (counter : BitVec 16) (data : Bytes) : Statement (.ctrcrypt kbytes counter data) :=
  ⟨by simp [encode, totalLength, bytes16, counted]; omega, by simp [Instr.frame]⟩
theorem bropen (bytes : Bytes) : Statement (.bropen bytes) :=
  ⟨by simp [encode, totalLength, counted]; omega, by simp [Instr.frame]⟩
theorem brcan (n : Byte) : Statement (.brcan n) := ⟨rfl, by simp [Instr.frame]⟩
theorem brreadu (n : Byte) : Statement (.brreadu n) := ⟨rfl, by simp [Instr.frame]⟩
theorem brreads (n : Byte) : Statement (.brreads n) := ⟨rfl, by simp [Instr.frame]⟩
theorem parsehdr (raw : Bytes) : Statement (.parsehdr raw) :=
  ⟨by simp [encode, totalLength, counted]; omega, by simp [Instr.frame]⟩
theorem classify (model : BitVec 16) (mode : Byte) : Statement (.classify model mode) := ⟨rfl, by simp [Instr.frame]⟩
theorem decrec (kind : RecordKind) (plaintext : Bytes) : Statement (.decrec kind plaintext) :=
  ⟨by simp [encode, totalLength, counted]; omega, by simp [Instr.frame]⟩
theorem advSolar (env : Envelope) (model counter : BitVec 16) (ct : Bytes) : Statement (.advSolar env model counter ct) :=
  (adv env _ _ _ _ ct).imp id fun h _ => h
theorem advBm (env : Envelope) (model counter : BitVec 16) (ct : Bytes) : Statement (.advBm env model counter ct) :=
  (adv env _ _ _ _ ct).imp id fun h _ => h
theorem advAc (env : Envelope) (model counter : BitVec 16) (ct : Bytes) : Statement (.advAc env model counter ct) :=
  (adv env _ _ _ _ ct).imp id fun h _ => h
theorem advDcem (env : Envelope) (model counter : BitVec 16) (ct : Bytes) : Statement (.advDcem env model counter ct) :=
  (adv env _ _ _ _ ct).imp id fun h _ => h
theorem advA0Solar (env : Envelope) (counter : BitVec 16) (ct : Bytes) : Statement (.advA0Solar env counter ct) :=
  (adv env _ _ _ _ ct).imp id fun h _ => h
theorem advA0Bm (env : Envelope) (counter : BitVec 16) (ct : Bytes) : Statement (.advA0Bm env counter ct) :=
  (adv env _ _ _ _ ct).imp id fun h _ => h
theorem advA0Ac (env : Envelope) (counter : BitVec 16) (ct : Bytes) : Statement (.advA0Ac env counter ct) :=
  (adv env _ _ _ _ ct).imp id fun h _ => h
theorem advA3Solar (env : Envelope) (counter : BitVec 16) (ct : Bytes) : Statement (.advA3Solar env counter ct) :=
  (adv env _ _ _ _ ct).imp id fun h _ => h
theorem advA3Bm (env : Envelope) (counter : BitVec 16) (ct : Bytes) : Statement (.advA3Bm env counter ct) :=
  (adv env _ _ _ _ ct).imp id fun h _ => h
theorem advA3Ac (env : Envelope) (counter : BitVec 16) (ct : Bytes) : Statement (.advA3Ac env counter ct) :=
  (adv env _ _ _ _ ct).imp id fun h _ => h
theorem advOthermode (env : Envelope) (model : BitVec 16) (mode : Byte) (counter : BitVec 16) (ct : Bytes) :
    Statement (.advOthermode env model mode counter ct) :=
  (adv env _ _ _ _ ct).imp id fun h _ => h
theorem advOthermarker (env : Envelope) (marker : Byte) (model : BitVec 16) (mode : Byte) (counter : BitVec 16) (ct : Bytes) :
    Statement (.advOthermarker env marker model mode counter ct) :=
  (adv env _ _ _ _ ct).imp id fun h _ => h

end Sys2Proof.Laws.EncodedLength
end

