-- ==== Sys2Proof/Tests/Slice0.lean ====
section
/-! SUPPORT. Tests: the smoke test of WellFormed, one decoding per constructor with its bytes written out from the encoding
tables (30_encoding.md R91, R93; 95_test_vectors.md), single steps with results from 95_test_vectors.md, and a witness for
the hypotheses of every statement that has some. Expected values are the spec's, not the model's. -/

open Sys2Proof Sys2Proof.Machine Sys2Proof.Claims

namespace Sys2Proof.Tests

/-! ### Helpers -/

/-- `AA:BB:CC:DD:EE:0n`, the MACs of 95_test_vectors.md. -/
def mac (n : Byte) : Mac := ⟨0xAA, 0xBB, 0xCC, 0xDD, 0xEE, n⟩

/-- DECODE's operands with no RSSI. -/
def env (n : Byte) : Envelope := ⟨mac n, false, 0⟩

/-- The test keys `K` and `K2`. -/
def keyK : Block := blockOfNat 0x000102030405060708090A0B0C0D0E0F
def keyK2 : Block := blockOfNat 0x2B7E151628AED2A6ABF7158809CF4F3C

/-- The `k` bytes of a numeral, most significant first, as the spec writes byte strings. -/
def hex (k n : Nat) : Bytes := (leBytes k n).reverse

/-- A reset block with one device provisioned in slot 0. -/
def loaded (n : Byte) (key : Block) : State :=
  { State.reset with slots := [⟨true, mac n, true, key, false, 0⟩, Slot.empty, Slot.empty] }

/-- A reset block whose reader holds `bytes`, with the cursor at `cur`. -/
def reading (bytes : Bytes) (cur : Nat) : State :=
  { State.reset with brBuf := bytes, brLen := bytes.length, brCur := cur }

/-- A block in a sticky fault. -/
def faulted : State :=
  { State.reset with fault := true, faultCode := 0x20, res := { Results.zero with rStatus := 0x20 } }

/-- A state with one command at the port. -/
def sends (s : State) (cmd : Bytes) : State := { s with port := [cmd] }

/-- A property of the next state an outcome holds; false of a fault or a refusal. -/
def nextHas (o : Host.Outcome State Fault Refusal) (p : State → Bool) : Bool :=
  match o with
  | .next t => p t
  | _ => false

/-- Values of the field registers 0 to 10, where available. -/
def values (f : Fields) : List (Option Int) := f.toList.map fun r => if r.v then some r.val.toInt else none

/-! ### WellFormed: an ill-formed term for each check, which it refuses -/

theorem test_wf_keyload_length : Instr.wf (.keyload (mac 1) (List.replicate 256 0)) = false := by decide +kernel
theorem test_wf_decode_length : Instr.wf (.decode (env 1) (List.replicate 256 0)) = false := by decide +kernel
theorem test_wf_ctrcrypt_key : Instr.wf (.ctrcrypt (List.replicate 256 0) 0 []) = false := by decide +kernel
theorem test_wf_ctrcrypt_data : Instr.wf (.ctrcrypt [] 0 (List.replicate 32 0)) = false := by decide
theorem test_wf_bropen : Instr.wf (.bropen (List.replicate 32 0)) = false := by decide
theorem test_wf_parsehdr : Instr.wf (.parsehdr (List.replicate 32 0)) = false := by decide
theorem test_wf_decrec : Instr.wf (.decrec .acCharger (List.replicate 32 0)) = false := by decide
theorem test_wf_frame : Instr.wf (.advBm (env 1) 0 0 (List.replicate 26 0)) = false := by decide
theorem test_wf_othermode_mode : Instr.wf (.advOthermode (env 1) 0 0x0D 0 []) = false := by decide
theorem test_wf_othermode_model : Instr.wf (.advOthermode (env 1) 0x6002 0xA3 0 []) = false := by decide
theorem test_wf_othermarker : Instr.wf (.advOthermarker (env 1) 0x10 0 0 0 []) = false := by decide
theorem test_wf_accepts : Instr.wf (.advOthermode (env 1) 0x0260 0xA0 0 (List.replicate 25 0)) = true := by decide

/-! ### Decoding, one word per constructor -/

theorem test_decode_reset : decodeCommand [0x00] = .ok .reset := by decide
theorem test_decode_keyload :
    decodeCommand [0x01, 0xAA, 0xBB, 0xCC, 0xDD, 0xEE, 0x01, 0x02, 0x11, 0x22] = .ok (.keyload (mac 1) [0x11, 0x22]) := by
  decide
theorem test_decode_decode :
    decodeCommand [0x02, 0xAA, 0xBB, 0xCC, 0xDD, 0xEE, 0x01, 0x01, 0xC4, 0x05, 0x10, 0x02, 0x83, 0x02, 0x34] =
      .ok (.decode ⟨mac 1, true, 0xC4⟩ [0x10, 0x02, 0x83, 0x02, 0x34]) := by decide
theorem test_decode_ctrcrypt :
    decodeCommand [0x03, 0x02, 0xA1, 0xA2, 0x34, 0x12, 0x01, 0x55] = .ok (.ctrcrypt [0xA1, 0xA2] 0x1234 [0x55]) := by decide
theorem test_decode_bropen : decodeCommand [0x04, 0x02, 0x00, 0x80] = .ok (.bropen [0x00, 0x80]) := by decide
theorem test_decode_brcan : decodeCommand [0x05, 0x11] = .ok (.brcan 17) := by decide
theorem test_decode_brreadu : decodeCommand [0x06, 0x14] = .ok (.brreadu 20) := by decide
theorem test_decode_brreads : decodeCommand [0x07, 0x16] = .ok (.brreads 22) := by decide
theorem test_decode_parsehdr : decodeCommand [0x08, 0x02, 0x11, 0x02] = .ok (.parsehdr [0x11, 0x02]) := by decide
theorem test_decode_classify : decodeCommand [0x09, 0x02, 0x83, 0xFF] = .ok (.classify 0x8302 0xFF) := by decide
theorem test_decode_decrec : decodeCommand [0x0A, 0x03, 0x01, 0x7E] = .ok (.decrec .acCharger [0x7E]) := by decide

/-- A DECODE from M1, without RSSI, of an 8-byte frame. -/
def frameCommand (marker m0 m1 mode : Byte) : Bytes :=
  [0x02, 0xAA, 0xBB, 0xCC, 0xDD, 0xEE, 0x01, 0x00, 0x00, 0x08, marker, m0, m1, mode, 0x34, 0x12, 0x5A, 0xA5]

theorem test_decode_advSolar :
    decodeCommand (frameCommand 0x10 0x02 0x83 0x01) = .ok (.advSolar (env 1) 0x8302 0x1234 [0x5A, 0xA5]) := by decide
theorem test_decode_advBm :
    decodeCommand (frameCommand 0x10 0x02 0x60 0x02) = .ok (.advBm (env 1) 0x6002 0x1234 [0x5A, 0xA5]) := by decide
theorem test_decode_advAc :
    decodeCommand (frameCommand 0x10 0x34 0x12 0x08) = .ok (.advAc (env 1) 0x1234 0x1234 [0x5A, 0xA5]) := by decide
theorem test_decode_advDcem :
    decodeCommand (frameCommand 0x10 0x00 0x00 0x0D) = .ok (.advDcem (env 1) 0 0x1234 [0x5A, 0xA5]) := by decide
theorem test_decode_advA0Solar :
    decodeCommand (frameCommand 0x10 0x02 0x60 0xA0) = .ok (.advA0Solar (env 1) 0x1234 [0x5A, 0xA5]) := by decide
theorem test_decode_advA0Bm :
    decodeCommand (frameCommand 0x10 0x02 0x83 0xA0) = .ok (.advA0Bm (env 1) 0x1234 [0x5A, 0xA5]) := by decide
theorem test_decode_advA0Ac :
    decodeCommand (frameCommand 0x10 0x00 0x2E 0xA0) = .ok (.advA0Ac (env 1) 0x1234 [0x5A, 0xA5]) := by decide
theorem test_decode_advA3Solar :
    decodeCommand (frameCommand 0x10 0x02 0x60 0xA3) = .ok (.advA3Solar (env 1) 0x1234 [0x5A, 0xA5]) := by decide
theorem test_decode_advA3Bm :
    decodeCommand (frameCommand 0x10 0x02 0x83 0xA3) = .ok (.advA3Bm (env 1) 0x1234 [0x5A, 0xA5]) := by decide
theorem test_decode_advA3Ac :
    decodeCommand (frameCommand 0x10 0x00 0x2E 0xA3) = .ok (.advA3Ac (env 1) 0x1234 [0x5A, 0xA5]) := by decide
theorem test_decode_advOthermode :
    decodeCommand (frameCommand 0x10 0x60 0x02 0xA0) = .ok (.advOthermode (env 1) 0x0260 0xA0 0x1234 [0x5A, 0xA5]) := by
  decide
theorem test_decode_advOthermarker :
    decodeCommand (frameCommand 0x11 0x02 0x83 0x02) = .ok (.advOthermarker (env 1) 0x11 0x8302 0x02 0x1234 [0x5A, 0xA5]) := by
  decide

theorem test_reject_empty : decodeCommand [] = .error .noOpcode := by decide
theorem test_reject_opcode : decodeCommand [0x0B] = .error .unknownOpcode := by decide
theorem test_reject_length : decodeCommand [0x05, 0x01, 0x02] = .error .wrongLength := by decide
theorem test_reject_flags :
    decodeCommand [0x02, 0xAA, 0xBB, 0xCC, 0xDD, 0xEE, 0x01, 0x02, 0x00, 0x00] = .error .reservedFlags := by decide
theorem test_reject_kind : decodeCommand [0x0A, 0x04, 0x00] = .error .badKind := by decide
theorem test_reject_operand : decodeCommand (0x04 :: 0x20 :: List.replicate 32 0) = .error .operandTooLong := by decide

/-! ### Table words and the fetch -/

theorem test_table_word_cmd : decodeTableWord 8 0x04 = some (.bropen []) := by decide
theorem test_table_word_adv :
    decodeTableWord 48 0x0000A0830210 = some (.advA0Bm ⟨Mac.zero, false, 0⟩ 0 []) := by decide
theorem test_fetch_word : step (State.reset.withFetchWord 48 0x0000A0830210) =
    exec (.advA0Bm ⟨Mac.zero, false, 0⟩ 0 []) State.reset := by rfl

/-! ### Single steps (95_test_vectors.md) -/

/-- P2 step 15. -/
theorem test_step_reset : nextHas (step (sends faulted [0x00])) (fun t => decide (t = State.reset)) = true := by decide

/-- P4 steps 4 and 5. -/
theorem test_step_keyload :
    nextHas (step (sends State.reset (0x01 :: ((mac 1).toBytes ++ 0x10 :: keyK.toBytes)))) (fun t =>
      decide (t.slot 0 = ⟨true, mac 1, true, keyK, false, 0⟩ ∧ t.res.rMac = mac 1 ∧ t.res.rStatus = 0)) = true := by decide
theorem test_step_keyload_exists :
    nextHas (exec (.keyload (mac 1) (List.replicate 16 0xFF)) (loaded 1 keyK)) (fun t =>
      decide (t.slot 0 = ⟨true, mac 1, true, keyK, false, 0⟩ ∧ t.res.rStatus = 0x11)) = true := by decide

/-- P1 step 3: offset 0 accepted. -/
theorem test_step_decode :
    nextHas (exec (.decode ⟨mac 1, true, 0xC4⟩ (hex 21 0x100283023412D960760EC60143B9140C645AC9D17B)) (loaded 1 keyK)) (fun t =>
      decide (values t.res.fields =
          [some 240, some 1328, some 0, some 2200, some 2, some (-1234), some (-123), some 875, none, none, none] ∧
        t.res.rOffset = 0 ∧ t.res.rPlaus = true ∧ t.res.rEmit = true ∧ (t.slot 0).lastCtr = 0x1234)) = true := by
  decide +kernel
/-- P4 step 16. -/
theorem test_step_decode_too_long :
    nextHas (exec (.decode (env 1) (List.replicate 32 0x10)) (loaded 1 keyK)) (fun t =>
      decide (t.res.rStatus = 0x06 ∧ t.res.rMac = mac 1)) = true := by decide

/-- V34, 17 zero bytes: one byte of the second keystream block. -/
theorem test_step_ctrcrypt :
    nextHas (exec (.ctrcrypt keyK.toBytes 0x1234 (List.replicate 17 0)) State.reset) (fun t =>
      decide (t.res.rData = hex 17 0x2960460BC60108CAAEE09B21C9614DD3A6 ∧ t.res.rDlen = 17)) = true := by
  decide +kernel
/-- V34, last row. -/
theorem test_step_ctrcrypt_key : nextHas (exec (.ctrcrypt (hex 15 0) 0x1234 []) State.reset) (fun t =>
    decide (t.res.rStatus = 0x10)) = true := by decide

/-- P2 step 1. -/
theorem test_step_bropen : nextHas (exec (.bropen (hex 2 0x0080)) (reading [1, 2, 3] 5)) (fun t =>
    decide (t.brBuf = [0x00, 0x80] ∧ t.brLen = 2 ∧ t.brCur = 0)) = true := by decide
/-- V23 steps 6 and 7. -/
theorem test_step_brcan : nextHas (exec (.brcan 0) (reading (hex 2 0xA5C3) 16)) (fun t => t.res.rBool) = true := by decide
theorem test_step_brcan_no : nextHas (exec (.brcan 1) (reading (hex 2 0xA5C3) 16)) (fun t => !t.res.rBool) = true := by decide
/-- V20, the 32-bit read at cursor 1. -/
theorem test_step_brreadu : nextHas (exec (.brreadu 32) (reading (hex 8 0xA5C3F00F9E6D12B7) 1)) (fun t =>
    decide (t.res.rVal = 0x07F861D2 ∧ t.brCur = 33)) = true := by decide
/-- V24. -/
theorem test_step_brreadu_width : nextHas (exec (.brreadu 0) (reading (hex 5 0xA5C3F00F9E) 0)) (fun t =>
    decide (t.res.rStatus = 0x21 ∧ t.fault = true ∧ t.faultCode = 0x21 ∧ t.brCur = 0)) = true := by decide
/-- V20, the 22-bit read at cursor 6. -/
theorem test_step_brreads : nextHas (exec (.brreads 22) (reading (hex 8 0xA5C3F00F9E6D12B7) 6)) (fun t =>
    decide (t.res.rVal = 0xFFFFC30E ∧ t.brCur = 28)) = true := by decide
/-- V24: the width check comes before the length check. -/
theorem test_step_brreads_width : nextHas (exec (.brreads 33) (reading (hex 1 0xA5) 0)) (fun t =>
    decide (t.faultCode = 0x21)) = true := by decide

/-- V37. -/
theorem test_step_parsehdr : nextHas (exec (.parsehdr (hex 9 0x1002830234120A0B0C)) State.reset) (fun t =>
    decide (t.res.rModel = 0x8302 ∧ t.res.rMode = 0x02 ∧ t.res.rCtr = 0x1234 ∧ t.res.rCtlen = 3)) = true := by decide
theorem test_step_parsehdr_short : nextHas (exec (.parsehdr (hex 2 0x1102)) State.reset) (fun t =>
    decide (t.res.rStatus = 0x01)) = true := by decide
/-- V38. -/
theorem test_step_classify : nextHas (exec (.classify 0x6002 0x02) State.reset) (fun t =>
    decide (t.res.rKind = 1 ∧ t.res.rStatus = 0)) = true := by decide
theorem test_step_classify_model : nextHas (exec (.classify 0x2E00 0xA3) State.reset) (fun t =>
    decide (t.res.rKind = 3)) = true := by decide

/-- V40: every Battery Monitor sentinel. -/
theorem test_step_decrec : nextHas (exec (.decrec .batteryMonitor (hex 15 0xFFFFFF7F0000FFFFFDFFFFFFFFFF3F)) (reading [1] 3))
    (fun t => decide (values t.res.fields =
      [some 65535, none, some 0, none, some 1, none, some (-1048575), none, none, none, none] ∧ t.brLen = 0)) = true := by
  decide +kernel
/-- V48 row 1: `pv_power` of `0xFFFF`, power from V×I. -/
theorem test_step_decrec_solar : nextHas (exec (.decrec .solarCharger (hex 12 0x030019052A003800FFFFFF01)) State.reset)
    (fun t => decide (values t.res.fields =
      [some 3, some 0, some 1305, some 42, some 56, some 0, some 511, some 54810, some 2, none, none] ∧
      t.res.rPlaus = true)) = true := by
  decide +kernel
/-- V45. -/
theorem test_decode_ac : values (decodeAc .grouped (hex 13 0x0300A0E5FFFFFF3EFCFFFFBA0F)) =
    [some 3, some 0, some 1440, none, none, some 125, none, none, some 58, some 31, none] := by decide +kernel
/-- V46. -/
theorem test_decode_ac_interleaved : values (decodeAc .interleaved (hex 13 0x0300A0A50FFFFFFFFFFFFFBA0F)) =
    [some 3, some 0, some 1440, none, none, some 125, none, none, some 58, some 31, none] := by decide +kernel
/-- V3, sub-header of 32 bits. -/
theorem test_decode_bm_skip : values (decodeBm 32 (hex 17 0x0F8D87895CA2095480A0F4FBAB5290FB3C)) =
    [some 41564, some 21513, some 41088, none, some 3, some (-1829718), none, none, none, none, none] := by decide +kernel

/-- V51: two stray bytes, offset 2. -/
theorem test_step_advBm : nextHas (exec (.advBm (env 1) 0x8302 0x1236 (hex 17 0xA55ADA9B9AA1460BE88543A66296AFCAB6)) (loaded 1 keyK))
    (fun t => decide (t.res.rOffset = 2 ∧ t.res.rPlaus = true ∧ t.res.fields[1].val = 1328)) = true := by decide +kernel
/-- V53 (a). -/
theorem test_step_advA0Solar : nextHas (exec (.advA0Solar (env 2) 0x0001 (hex 12 0x7B59539EA3CCED9D12A5BC2C)) (loaded 2 keyK2))
    (fun t => decide (t.res.rKind = 2 ∧ t.res.rOffset = 0 ∧ t.res.fields[7].val = 55000)) = true := by decide +kernel
/-- V53 (b): offset 3. -/
theorem test_step_advSolar : nextHas (exec (.advSolar (env 2) 0x6002 0x0002 (hex 15 0xDEAD421AB0A63E23F6D79129E3BA8A)) (loaded 2 keyK2))
    (fun t => decide (t.res.rOffset = 3 ∧ t.res.rPlaus = true ∧ t.res.fields[3].val.toInt = -15)) = true := by decide +kernel
/-- V47: all seven offsets implausible. -/
theorem test_step_advAc : nextHas (exec (.advAc (env 2) 0x2E00 0x0001 (hex 13 0)) (loaded 2 keyK)) (fun t =>
    decide (values t.res.fields =
      [some 227, some 124, some 979, some 1771, some 479, some 1345, some 2022, some 119, some 62, some 192, none] ∧
      t.res.rPlaus = false ∧ t.res.rEmit = true)) = true := by decide +kernel
/-- P4 step 14: an empty ciphertext is emitted. -/
theorem test_step_advBm_empty : nextHas (exec (.advBm ⟨mac 3, true, 7⟩ 0x8302 0 []) (loaded 3 keyK)) (fun t =>
    decide (t.res.rEmit = true ∧ values t.res.fields = List.replicate 11 none ∧ t.res.rRssi = 7)) = true := by decide +kernel
/-- P4 steps 10 and 9. -/
theorem test_step_advOthermode : nextHas (exec (.advOthermode (env 1) 0x8302 0xFF 0x1234 [0xAA]) (loaded 1 keyK)) (fun t =>
    decide (t.res.rStatus = 0x03 ∧ t.res.rMode = 0xFF ∧ t.res.rCtlen = 1 ∧ (t.slot 0).seen = false)) = true := by decide
theorem test_step_advOthermarker :
    nextHas (exec (.advOthermarker (env 1) 0x11 0x8302 0x02 0x1234 [0xAA]) (reading [1, 2] 3)) (fun t =>
      decide (t.res.rStatus = 0x02 ∧ t.res.rModel = 0 ∧ t.brLen = 0)) = true := by decide

/-! ### The cipher's intermediate values (95_test_vectors.md V30, V33) -/

theorem test_round_key_10 : roundKey keyK 10 = blockOfNat 0x13111D7FE3944A17F307A78B4D2B30C5 := by decide +kernel
theorem test_mix_columns :
    mixColumns (blockOfNat 0x6353E08C0960E104CD70B751BACAD0E7) = blockOfNat 0x5F72641557F5BC92F7BE3B291DB9F91A := by
  decide +kernel
theorem test_counter_le_carry : nextCounterBlock .le128 (counterBlock0 0xFFFF) = blockOfNat 0x00000100000000000000000000000000 := by
  decide +kernel

/-! ### Witnesses: concrete states and operands that meet a statement's hypotheses -/

theorem witness_DecodeOfEncodeIsCanonical : Instr.wf (.advA3Ac (env 1) 0x1234 (List.replicate 25 7)) = true := by decide
theorem witness_EncodeOfDecodeIsCommand : decodeCommand [0x05, 0x10] = .ok (.brcan 16) := by decide
theorem witness_FrameSelectsItsTableRow :
    (6 ≤ (hex 6 0x100283020000).length ∧ (hex 6 0x100283020000).length ≤ 31 ∧
      ∃ p ∈ specificRows, matchesPattern p (hex 6 0x100283020000) = true) ∧
    (6 ≤ (0x10 :: List.replicate 30 0 : Bytes).length ∧ (0x10 :: List.replicate 30 0 : Bytes).length ≤ 31 ∧
      ∀ p ∈ specificRows, matchesPattern p (0x10 :: List.replicate 30 0) = false) ∧
    (6 ≤ (hex 6 0x110283020000).length ∧ (hex 6 0x110283020000).getD 0 0 ≠ 0x10) := by decide
theorem witness_StepRunsDecodedCommand :
    (sends State.reset [0x05, 0x10]).port = [0x05, 0x10] :: [] ∧ decodeCommand [0x05, 0x10] = .ok (.brcan 16) := by decide
theorem witness_StepAnswersEveryCommand : (sends State.reset [0x0B]).port = [0x0B] :: [] := by decide
theorem witness_MalformedAnswersBadCommand :
    (sends State.reset [0x0B]).fault = false ∧ (sends State.reset [0x0B]).port = [0x0B] :: [] ∧ Malformed [0x0B] := by
  unfold Malformed; decide
theorem witness_FaultedRefusesAllButReset : faulted.fault = true ∧ Instr.brcan 1 ≠ .reset := by decide
theorem witness_FaultedStepAcceptsOnlyOneByteReset :
    (sends faulted [0x05, 0x01]).fault = true ∧ (sends faulted [0x05, 0x01]).port = [0x05, 0x01] :: [] ∧
      ([0x05, 0x01] : Bytes) ≠ [0x00] ∧ (sends faulted [0x00]).port = [0x00] :: [] := by decide
theorem witness_StepKeepsInvariant : State.Inv (sends State.reset [0x05, 0x10]) ∧
    nextHas (step (sends State.reset [0x05, 0x10])) (fun _ => true) = true :=
  ⟨⟨by decide, by decide, by decide, by decide, by decide⟩, by decide⟩
theorem witness_KeysAreImmutable : (sends (loaded 1 keyK) [0x0B]).port.head? ≠ some [0x00] ∧
    ((sends (loaded 1 keyK) [0x0B]).slot 0).used = true ∧
    nextHas (step (sends (loaded 1 keyK) [0x0B])) (fun _ => true) = true := by decide
theorem witness_LookupFindsTheOnlySlot : State.Inv (loaded 1 keyK) ∧ lookup (loaded 1 keyK).slots (mac 1) = some 0 ∧
    ((loaded 1 keyK).slot 0).used = true ∧ ((loaded 1 keyK).slot 0).mac = mac 1 :=
  ⟨⟨by decide, by decide, by decide, by decide, by decide⟩, by decide, by decide, by decide⟩
theorem witness_OnlyUnsafeReadsFault :
    State.reset.fault = false ∧ (33 : Byte).toNat > 32 ∧ (0 : Byte).toNat = 0 ∧
    (1 ≤ (1 : Byte).toNat ∧ 8 * State.reset.brLen < State.reset.brCur + (1 : Byte).toNat) ∧
    ((32 : Byte).toNat ≤ 32 ∧ 8 * (reading [1] 0).brLen < (reading [1] 0).brCur + (32 : Byte).toNat) ∧
    nextHas (exec (.brcan 1) State.reset) (fun _ => true) = true := by decide
/-- For the statements whose one hypothesis is an unfaulted block: ResultsAreFresh, BropenOpensReader,
BrcanAnswersComparison, CtrcryptWritesData, ParsehdrReadsHeader, ClassifyFollowsTables, DecrecWritesReading,
UnsupportedFramesSkip. -/
theorem witness_usable : State.reset.fault = false ∧ (reading [1, 2] 3).fault = false := by decide
theorem witness_ReaderUnitIsShared :
    (reading [1, 2] 3).fault = false ∧ IsDecode (.decode (env 1) []) ∧
    nextHas (exec (.decode (env 1) []) (reading [1, 2] 3)) (fun _ => true) = true ∧
    nextHas (exec (.decrec .solarCharger []) (reading [1, 2] 3)) (fun _ => true) = true ∧
    nextHas (exec (.classify 0 0) (reading [1, 2] 3)) (fun _ => true) = true :=
  ⟨by decide, .inr ⟨_, _, rfl⟩, by decide, by decide +kernel, by decide⟩
theorem witness_reads : (reading (hex 5 0xA5C3F00F9E) 8).fault = false ∧ 1 ≤ (32 : Byte).toNat ∧ (32 : Byte).toNat ≤ 32 ∧
    (reading (hex 5 0xA5C3F00F9E) 8).brCur + (32 : Byte).toNat ≤ 8 * (reading (hex 5 0xA5C3F00F9E) 8).brLen ∧
    (reading [1] 7).brCur + (1 : Byte).toNat ≤ 8 * (reading [1] 7).brLen := by decide
theorem witness_SignExtensionIsTwosComplement : 1 ≤ 32 ∧ 2 ^ 32 - 1 < 2 ^ 32 ∧ (1 : Nat) ≤ 1 ∧ 1 < 2 ^ 1 := by decide
theorem witness_ReadsCompose : (reading (hex 5 0xA5C3F00F9E) 3).fault = false ∧ 1 ≤ (5 : Byte).toNat ∧ 1 ≤ (27 : Byte).toNat ∧
    (32 : Byte).toNat = (5 : Byte).toNat + (27 : Byte).toNat ∧
    (reading (hex 5 0xA5C3F00F9E) 3).brCur + (32 : Byte).toNat ≤ 8 * (reading (hex 5 0xA5C3F00F9E) 3).brLen := by decide
theorem witness_CheckedReadDoesNotFault : (reading (hex 2 0xA5C3) 0).fault = false ∧ 1 ≤ (16 : Byte).toNat ∧
    (16 : Byte).toNat ≤ 32 ∧ nextHas (exec (.brcan 16) (reading (hex 2 0xA5C3) 0)) (fun t => t.res.rBool) = true := by decide
theorem witness_CursorIsForwardOnly :
    nextHas (exec (.brreadu 4) (reading [1] 0)) (fun _ => true) = true ∧
    nextHas (execMalformed (reading [1] 3)) (fun _ => true) = true ∧ ¬ ReplacesReader (.brreadu 4) := by
  refine ⟨by decide, by decide, ?_⟩
  simp [ReplacesReader, IsDecode, Instr.frame]
theorem witness_CipherFollowsKeyExpansion : 4 ≤ 4 ∧ 43 < 44 := by decide
theorem witness_CounterModeFormula : 16 < (List.replicate 17 0 : Bytes).length := by decide
theorem witness_CounterAdvanceIrrelevantInOneBlock : (List.replicate 16 7 : Bytes).length ≤ 16 := by decide
theorem witness_CtrcryptWritesData : keyK.toBytes.length = 16 ∧ (hex 15 0).length ≠ 16 := by decide
theorem witness_ParsehdrReadsHeader : (6 ≤ (hex 6 0x10FFFFFFFFFF).length ∧ (hex 6 0x10FFFFFFFFFF).getD 0 0 = 0x10) ∧
    (hex 5 0x1002830234).length < 6 ∧ (6 ≤ (hex 7 0x110283023412AA).length ∧ (hex 7 0x110283023412AA).getD 0 0 ≠ 0x10) := by
  decide
theorem witness_FieldsAreReadInOrder : 7 < bmWidths.length := by decide
/-- Raw patterns that are not the sentinel, its two neighbours among them. -/
theorem witness_AuxValueByType : (0x7FFE : Nat) ≠ 0x7FFF ∧ (0x8000 : Nat) ≠ 0x7FFF ∧ (0 : Nat) ≠ 0xFFFF := by decide
theorem witness_SolarChargerLayout :
    ((decodeSolar (hex 12 0x05006405F1FF7B0037001100))[5].v = true ∧ (decodeSolar (hex 12 0x05006405F1FF7B0037001100))[5].val ≠ 0) ∧
    (¬ ((decodeSolar (hex 8 0x05006405F1FF7B00))[5].v = true) ∧ (decodeSolar (hex 8 0x05006405F1FF7B00))[2].v = true ∧
      (decodeSolar (hex 8 0x05006405F1FF7B00))[3].v = true) ∧
    ((decodeSolar (hex 12 0x0000FF7FFF7F000000000000))[5].val = 0 ∧
      ¬ (decodeSolar (hex 12 0x0000FF7FFF7F000000000000))[2].v = true) := by decide +kernel
theorem witness_SearchFindsFirstPlausible :
    (∃ o, o < min 7 (hex 12 0x7B59539EA3CCED9D12A5BC2C).length ∧ plausible Config.params .solarCharger
      (offsetReading Config.params .solarCharger keyK2 1 (hex 12 0x7B59539EA3CCED9D12A5BC2C) o) = true) ∧
    (∀ o, o < min 7 (hex 13 0).length →
      plausible Config.params .acCharger (offsetReading Config.params .acCharger keyK 1 (hex 13 0) o) = false) :=
  ⟨⟨0, by decide, by decide +kernel⟩, by decide +kernel⟩

/-- P1 step 3: its frame is decodable and its slot fresh. -/
theorem witness_DecodeEmitsReading : (loaded 1 keyK).fault = false ∧
    Decodable (hex 21 0x100283023412D960760EC60143B9140C645AC9D17B) .batteryMonitor ∧
    Fresh (loaded 1 keyK) (mac 1) 0 (counterOf (hex 21 0x100283023412D960760EC60143B9140C645AC9D17B)) := by
  unfold Decodable Fresh; decide
/-- For SolarFramesEmit, BatteryMonitorFramesEmit and AcChargerFramesEmit. -/
theorem witness_framesEmit : (loaded 2 keyK2).fault = false ∧ Fresh (loaded 2 keyK2) (env 2).mac 0 0xFFFF := by
  unfold Fresh; decide
theorem witness_DecodeSkips :
    (31 < (List.replicate 32 0 : Bytes).length ∧ (hex 5 0x1002830234).length < 6) ∧
    (6 ≤ (hex 7 0x110283023412AA).length ∧ (hex 7 0x110283023412AA).getD 0 0 ≠ 0x10) ∧
    ((hex 7 0x100283FF3412AA).getD 0 0 = 0x10 ∧
      kindTable (modelOf (hex 7 0x100283FF3412AA)) (modeOf (hex 7 0x100283FF3412AA)) = 0) ∧
    (∀ sl ∈ State.reset.slots, sl.used = true → sl.mac ≠ mac 1) ∧ lookup (loaded 1 keyK).slots (mac 1) = some 0 := by decide
/-- A slot without a key: no run reaches it, the rule names it (44_offset_search_decode.md R245). -/
theorem witness_DecodeSkips_keyless :
    lookup [⟨true, mac 1, false, Block.zero, false, 0⟩] (mac 1) = some 0 := by decide
/-- The slot after P1 step 3: the same counter is a duplicate. -/
theorem witness_DecodeSkips_duplicate :
    isDuplicate ⟨true, mac 1, true, keyK, true, 0x1234⟩ (counterOf (hex 21 0x100283023412D960760EC60143B9140C645AC9D17B)) = true := by
  decide
/-- P4 steps 14 and 15, and another counter. -/
theorem witness_DuplicatesAreSuppressed : (loaded 3 keyK).fault = false ∧
    Decodable (hex 6 0x100283020000) .batteryMonitor ∧ Decodable (hex 6 0x100283020100) .batteryMonitor ∧
    Fresh (loaded 3 keyK) (mac 3) 0 (counterOf (hex 6 0x100283020000)) ∧
    counterOf (hex 6 0x100283020100) ≠ counterOf (hex 6 0x100283020000) := by
  unfold Decodable Fresh; decide
theorem witness_EmitMarksDecodeWithStatusOk : State.Inv (loaded 3 keyK) ∧
    nextHas (exec (.advBm (env 3) 0x8302 0 []) (loaded 3 keyK)) (fun t => t.res.rEmit) = true ∧
    nextHas (execMalformed (loaded 3 keyK)) (fun _ => true) = true :=
  ⟨⟨by decide, by decide, by decide, by decide, by decide⟩, by decide +kernel, by decide⟩
theorem witness_DecodeIsPure :
    nextHas (exec (.decode (env 1) []) (loaded 1 keyK)) (fun _ => true) = true ∧
    (lookup (loaded 1 keyK).slots (mac 1)).map (loaded 1 keyK).slot =
      (lookup (reading [1] 3 |>.setSlot 2 ⟨true, mac 1, true, keyK, false, 0⟩).slots (mac 1)).map
        (reading [1] 3 |>.setSlot 2 ⟨true, mac 1, true, keyK, false, 0⟩).slot := by decide
theorem witness_RssiIsNotExamined :
    nextHas (exec (.decode ⟨mac 1, true, 5⟩ []) State.reset) (fun _ => true) = true ∧
    nextHas (exec (.decode ⟨mac 1, false, 9⟩ []) State.reset) (fun _ => true) = true := by decide
theorem witness_KeyloadProvisions :
    (hex 15 0).length ≠ 16 ∧ keyK.toBytes.length = 16 ∧ (∃ sl ∈ (loaded 1 keyK).slots, sl.used = true ∧ sl.mac = mac 1) ∧
    (∀ sl ∈ ([⟨true, mac 1, true, keyK, false, 0⟩] : List Slot), sl.used = true ∧ sl.mac ≠ mac 2) ∧
    (∀ sl ∈ (loaded 1 keyK).slots, sl.used = true → sl.mac ≠ mac 2) ∧ 1 < (loaded 1 keyK).slots.length ∧
    ((loaded 1 keyK).slot 1).used = false ∧ (∀ j, j < 1 → ((loaded 1 keyK).slot j).used = true) := by decide
theorem witness_KeysStayHidden : ¬ IsDecode (.keyload (mac 2) keyK.toBytes) ∧
    nextHas (exec (.keyload (mac 2) keyK.toBytes) (loaded 1 keyK)) (fun _ => true) = true ∧
    nextHas (exec (.keyload (mac 2) keyK.toBytes) (withKeys (loaded 1 keyK) fun _ => Block.zero)) (fun _ => true) = true := by
  refine ⟨?_, by decide, by decide⟩
  simp [IsDecode, Instr.frame]

end Sys2Proof.Tests
end

