-- ==== Sys2Proof/Proofs/BitReads.lean ====
section
/-! PROOFS. Bit reads and sign extension (00_scope.md R9, R12, 40_bitreader.md R133, R136): the machine's recursive read is
the spec's sum of bits, sign extension is the signed reading of a bit vector, and a read that fits completes. -/

namespace Sys2Proof.Proofs

open Sys2Proof.Machine Sys2Proof.Claims

/-! ### Bits and sums of bits -/

/-- The machine's bit, by division, is the spec's bit of the byte's bit vector (20_memory.md R61). -/
theorem bitAt_eq_bitOf (b : Bytes) (p : Nat) : bitAt b p = bitOf b p := by
  simp [bitAt, bitOf, BitVec.getLsbD, Nat.toNat_testBit]

@[simp] theorem fieldSum_zero (b : Bytes) (c : Nat) : fieldSum b c 0 = 0 := rfl

/-- A sum of bits, with the least significant bit split off: the rest is the field one bit further, doubled. -/
theorem fieldSum_succ (b : Bytes) (c n : Nat) : fieldSum b c (n + 1) = bitOf b c + 2 * fieldSum b (c + 1) n := by
  have shifted (i : Nat) : bitOf b (c + (i + 1)) * 2 ^ (i + 1) = 2 * (bitOf b (c + 1 + i) * 2 ^ i) := by
    rw [Nat.add_right_comm c 1 i, ← Nat.add_assoc, Nat.pow_succ]; ring
  simp [fieldSum, List.range_succ_eq_map, Function.comp_def, shifted, List.sum_map_mul_left]

/-- An unsigned read is the sum of its bits (00_scope.md R12). -/
theorem bitRead_eq_fieldSum (b : Bytes) (c n : Nat) : bitRead b c n = fieldSum b c n := by
  induction n generalizing c with
  | zero => rfl
  | succ n ih => rw [bitRead, fieldSum_succ, bitAt_eq_bitOf, ih]

/-- A sum of `n` bits is below `2^n`. -/
theorem fieldSum_lt (b : Bytes) (c n : Nat) : fieldSum b c n < 2 ^ n :=
  bitRead_eq_fieldSum b c n ▸ bitRead_lt b c n

/-! ### Sign extension -/

/-- Sign extension of a pattern is the signed reading of the bit vector that holds it: the bit `sext` tests is the
vector's sign bit. -/
theorem sext_eq_toInt {n v : Nat} (hn : 1 ≤ n) (hv : v < 2 ^ n) : sext n v = (BitVec.ofNat n v).toInt := by
  have sign : (BitVec.ofNat n v).msb = decide (v / 2 ^ (n - 1) % 2 = 1) := by
    rw [BitVec.msb_eq_getLsbD_last, BitVec.getLsbD_ofNat, Nat.testBit_eq_decide_div_mod_eq,
      decide_eq_true (show n - 1 < n by omega), Bool.true_and]
  simp [sext, BitVec.toInt_eq_msb_cond, sign, Nat.mod_eq_of_lt hv]

/-- Sign extension keeps the pattern modulo `2^n`. -/
theorem sext_emod {n v : Nat} (hv : v < 2 ^ n) : sext n v % 2 ^ n = v := by
  have pattern : (v : Int) % 2 ^ n = v := Int.emod_eq_of_lt (by omega) (by exact_mod_cast hv)
  unfold sext
  split
  · rw [Int.sub_emod_right, pattern]
  · exact pattern

/-- Settles O22: reads by induction on the width, sign extension by the range of a bit vector's signed reading. -/
theorem signExtensionIsTwosComplement : Obligations.SignExtensionIsTwosComplement := by
  refine ⟨fun b c n => ⟨bitRead_eq_fieldSum b c n, bitRead_lt b c n⟩, fun n v hn _ hv => ?_⟩
  have signed := sext_eq_toInt hn hv
  exact ⟨signed, sext_emod hv, signed ▸ BitVec.le_toInt _, signed ▸ BitVec.toInt_lt⟩

/-! ### Reads that fit -/

theorem exec_brreadu (n : Byte) (s : State) :
    exec (.brreadu n) s = s.accept fun s => s.bitFieldRead n.toNat fun v => BitVec.ofNat 32 v := rfl

theorem legalWidth_iff {n : Nat} : legalWidth n = true ↔ 1 ≤ n ∧ n ≤ 32 := by simp [legalWidth]

theorem canRead_iff {len cur n : Nat} : canRead len cur n = true ↔ cur + n ≤ 8 * len := decide_eq_true_iff

/-- A read of a legal width that fits passes both checks (40_bitreader.md R133 steps 3 and 4): the value is a function of
the sum of bits, and the cursor advances. -/
theorem bitFieldRead_of_fits {s : State} {n : Nat} (result : Nat → BitVec 32) (h1 : 1 ≤ n) (h32 : n ≤ 32)
    (hfit : s.brCur + n ≤ 8 * s.brLen) :
    s.bitFieldRead n result =
      { s with brCur := s.brCur + n, res := { s.res with rVal := result (fieldSum s.brBuf s.brCur n) } } := by
  have width := legalWidth_iff.mpr ⟨h1, h32⟩
  have room := canRead_iff.mpr hfit
  rcases s.bitFieldRead_cases n result with ⟨bad, _⟩ | ⟨_, bad, _⟩ | ⟨_, _, value⟩
  · simp [width] at bad
  · simp [room] at bad
  · rw [value, bitRead_eq_fieldSum]

/-- Settles O20: the command runs on cleared results, and its read fits. -/
theorem brreaduReadsBits : Obligations.BrreaduReadsBits := by
  intro s n hfault h1 h32 hfit
  have value := bitFieldRead_of_fits (s := s.clearResults) (BitVec.ofNat 32) h1 h32 hfit
  refine ⟨?_, fieldSum_lt s.brBuf s.brCur n.toNat⟩
  rw [exec_brreadu, State.accept_of_usable hfault, value]
  rfl

end Sys2Proof.Proofs
end

/-! PROOFS. The state of the block (10_state.md): what each command can do to it, said once in `Effect`, and from that the
invariant, the slot table, the result registers and the ranges of the field registers. -/

namespace Sys2Proof.Proofs

open Sys2Proof.Machine Sys2Proof.Claims

/-! ### What the decoder accepts -/

/-- The instructions that a command string can decode to, with the operand bounds that the decoder tested (30_encoding.md
R91, R92). Of the strings only RESET's is named: it has one. -/
inductive Decoded : Bytes → Instr → Prop
  | reset : Decoded [0x00] .reset
  | keyload {bs : Bytes} (mac : Mac) {kbytes : Bytes} (len : kbytes.length ≤ 255) : Decoded bs (.keyload mac kbytes)
  | decode {bs : Bytes} (env : Envelope) {raw : Bytes} (len : raw.length ≤ 255) : Decoded bs (selectRow env raw)
  | ctrcrypt {bs kbytes : Bytes} (counter : BitVec 16) {data : Bytes} (klen : kbytes.length ≤ 255)
      (dlen : data.length ≤ 31) : Decoded bs (.ctrcrypt kbytes counter data)
  | bropen {bs bytes : Bytes} (len : bytes.length ≤ 31) : Decoded bs (.bropen bytes)
  | brcan {bs : Bytes} (n : Byte) : Decoded bs (.brcan n)
  | brreadu {bs : Bytes} (n : Byte) : Decoded bs (.brreadu n)
  | brreads {bs : Bytes} (n : Byte) : Decoded bs (.brreads n)
  | parsehdr {bs raw : Bytes} (len : raw.length ≤ 31) : Decoded bs (.parsehdr raw)
  | classify {bs : Bytes} (model : BitVec 16) (mode : Byte) : Decoded bs (.classify model mode)
  | decrec {bs : Bytes} (kind : RecordKind) {plaintext : Bytes} (len : plaintext.length ≤ 31) :
      Decoded bs (.decrec kind plaintext)

theorem decodeString_eq_ok {mk : Bytes → Instr} {bs : Bytes} {i : Instr} (h : decodeString mk bs = .ok i) :
    ∃ b : Bytes, b.length ≤ 31 ∧ i = mk b := by
  unfold decodeString at h
  split at h
  · split at h
    · rename_i b _ len
      exact ⟨b, len, by injection h with h; exact h.symm⟩
    · cases h
  · cases h

theorem decodeByte_eq_ok {mk : Byte → Instr} {bs : Bytes} {i : Instr} (h : decodeByte mk bs = .ok i) :
    ∃ n, i = mk n := by
  unfold decodeByte at h
  split at h
  · exact ⟨_, by injection h with h; exact h.symm⟩
  · cases h

theorem decodeKeyload_eq_ok {bs : Bytes} {i : Instr} (h : decodeKeyload bs = .ok i) :
    ∃ mac kbytes, kbytes.length ≤ 255 ∧ i = .keyload mac kbytes := by
  unfold decodeKeyload at h
  split at h
  · split at h
    · rename_i counted
      exact ⟨_, _, (takeCounted_eq_some counted).2, by injection h with h; exact h.symm⟩
    · cases h
  · cases h

theorem decodeDecode_eq_ok {bs : Bytes} {i : Instr} (h : decodeDecode bs = .ok i) :
    ∃ env raw, raw.length ≤ 255 ∧ i = selectRow env raw := by
  unfold decodeDecode at h
  split at h
  · split at h
    · split at h
      · cases h
      · rename_i counted _
        exact ⟨_, _, (takeCounted_eq_some counted).2, by injection h with h; exact h.symm⟩
    · cases h
  · cases h

theorem decodeCtrcrypt_eq_ok {bs : Bytes} {i : Instr} (h : decodeCtrcrypt bs = .ok i) :
    ∃ kbytes counter data, kbytes.length ≤ 255 ∧ data.length ≤ 31 ∧ i = .ctrcrypt kbytes counter data := by
  unfold decodeCtrcrypt at h
  split at h
  · rename_i counted
    split at h
    · split at h
      · rename_i len
        exact ⟨_, _, _, (takeCounted_eq_some counted).2, len, by injection h with h; exact h.symm⟩
      · cases h
    · cases h
  · cases h

theorem decodeDecrec_eq_ok {bs : Bytes} {i : Instr} (h : decodeDecrec bs = .ok i) :
    ∃ kind pt, pt.length ≤ 31 ∧ i = .decrec kind pt := by
  unfold decodeDecrec at h
  split at h
  · split at h
    · exact ⟨_, decodeString_eq_ok h⟩
    · cases h
  · cases h

theorem decodeReset_eq_ok {bs : Bytes} {i : Instr} (h : decodeReset bs = .ok i) : bs = [] ∧ i = .reset := by
  cases bs with
  | nil => exact ⟨rfl, by injection h with h; exact h.symm⟩
  | cons => cases h

theorem decodeClassify_eq_ok {bs : Bytes} {i : Instr} (h : decodeClassify bs = .ok i) :
    ∃ model mode, i = .classify model mode := by
  unfold decodeClassify at h
  split at h
  · exact ⟨_, _, by injection h with h; exact h.symm⟩
  · cases h

/-- Everything the decoder accepts. -/
theorem decoded_of_decodeCommand {bs : Bytes} {i : Instr} (h : decodeCommand bs = .ok i) : Decoded bs i := by
  cases bs with
  | nil => cases h
  | cons op rest =>
    rcases decodeCommand_cases op rest with ⟨rfl, e⟩ | ⟨-, e⟩ | ⟨-, e⟩ | ⟨-, e⟩ | ⟨-, e⟩ | ⟨-, e⟩ | ⟨-, e⟩ | ⟨-, e⟩ |
      ⟨-, e⟩ | ⟨-, e⟩ | ⟨-, e⟩ | ⟨-, e⟩ <;> rw [e] at h
    · obtain ⟨rfl, rfl⟩ := decodeReset_eq_ok h; exact .reset
    · obtain ⟨mac, kbytes, len, rfl⟩ := decodeKeyload_eq_ok h; exact .keyload mac len
    · obtain ⟨env, raw, len, rfl⟩ := decodeDecode_eq_ok h; exact .decode env len
    · obtain ⟨kbytes, counter, data, klen, dlen, rfl⟩ := decodeCtrcrypt_eq_ok h; exact .ctrcrypt counter klen dlen
    · obtain ⟨bytes, len, rfl⟩ := decodeString_eq_ok h; exact .bropen len
    · obtain ⟨n, rfl⟩ := decodeByte_eq_ok h; exact .brcan n
    · obtain ⟨n, rfl⟩ := decodeByte_eq_ok h; exact .brreadu n
    · obtain ⟨n, rfl⟩ := decodeByte_eq_ok h; exact .brreads n
    · obtain ⟨raw, len, rfl⟩ := decodeString_eq_ok h; exact .parsehdr len
    · obtain ⟨model, mode, rfl⟩ := decodeClassify_eq_ok h; exact .classify model mode
    · obtain ⟨kind, pt, len, rfl⟩ := decodeDecrec_eq_ok h; exact .decrec kind len
    · cases h

theorem isDecode_of_frame {i : Instr} (h : i.frame.isSome = true) : IsDecode i := .inl h

theorem isDecode_decode (env : Envelope) (raw : Bytes) : IsDecode (.decode env raw) := .inr ⟨env, raw, rfl⟩

/-- The row of a DECODE command is a DECODE (42_header_dispatch.md R189). -/
theorem isDecode_selectRow (env : Envelope) (raw : Bytes) : IsDecode (selectRow env raw) := by
  unfold selectRow
  split
  · split
    · exact isDecode_decode ..
    · rename_i marker m0 m1 mode c0 c1 ct _
      apply isDecode_of_frame
      rcases selectAdv_cases env marker (le16 m0 m1) mode (le16 c0 c1) ct with ⟨-, e⟩ | ⟨-, ⟨-, e⟩ | ⟨-, e⟩ | ⟨-, e⟩ |
        ⟨-, e⟩ | ⟨-, -, e⟩ | ⟨-, -, e⟩ | ⟨-, -, e⟩ | ⟨-, -, e⟩ | ⟨-, -, e⟩ | ⟨-, -, e⟩ | ⟨-, e⟩⟩ <;> rw [e] <;> rfl
  · exact isDecode_decode ..

/-- Only the one-byte string is a RESET (45_host_commands.md R260). -/
theorem eq_of_decodeCommand_reset {bs : Bytes} (h : decodeCommand bs = .ok .reset) : bs = [0x00] := by
  generalize reset : Instr.reset = i at h
  cases decoded_of_decodeCommand h with
  | reset => rfl
  | decode env len => exact absurd (reset ▸ isDecode_selectRow env _) (by simp [IsDecode, Instr.frame])
  | _ => cases reset

/-- The row of a DECODE command is well-formed: a frame of at most `BUF_MAX` bytes selects the row that holds its fields
(30_encoding.md R103, R109). -/
theorem wf_selectRow (env : Envelope) {raw : Bytes} (len : raw.length ≤ 255) : (selectRow env raw).wf = true := by
  have short : Instr.wf (.decode env raw) = true := fitsLengthByte_iff.mpr len
  unfold selectRow
  split
  · rename_i marker m0 m1 mode c0 c1 ct
    split
    · exact short
    · rename_i fits
      have ctFits : frameFits ct = true := frameFits_iff.mpr (by simp at fits; omega)
      rcases selectAdv_cases env marker (le16 m0 m1) mode (le16 c0 c1) ct with ⟨other, e⟩ | ⟨-, ⟨-, e⟩ | ⟨-, e⟩ | ⟨-, e⟩ |
        ⟨-, e⟩ | ⟨-, -, e⟩ | ⟨-, -, e⟩ | ⟨-, -, e⟩ | ⟨-, -, e⟩ | ⟨-, -, e⟩ | ⟨-, -, e⟩ | ⟨unnamed, e⟩⟩ <;> rw [e]
      any_goals exact ctFits
      · simpa [Instr.wf, ctFits] using other
      · simp [Instr.wf, ctFits, unnamed]
  · exact short

/-- What is decoded is well-formed (30_encoding.md R92). -/
theorem wf_of_decodeCommand {bs : Bytes} {i : Instr} (h : decodeCommand bs = .ok i) : i.wf = true := by
  cases decoded_of_decodeCommand h with
  | keyload mac len => exact fitsLengthByte_iff.mpr len
  | decode env len => exact wf_selectRow env len
  | ctrcrypt counter klen dlen => simp [Instr.wf, fitsLengthByte_iff.mpr klen, fitsBuffer_iff.mpr dlen]
  | bropen len | parsehdr len | decrec _ len => exact fitsBuffer_iff.mpr len
  | _ => rfl

/-! ### The slot table (10_state.md R24 to R27) -/

theorem slot_of_not_lt (s : State) {i : Nat} (h : ¬ i < s.slots.length) : s.slot i = Slot.empty := by
  simp [State.slot, h]

/-- A used slot is in the table. -/
theorem lt_length_of_used {s : State} {i : Nat} (h : (s.slot i).used = true) : i < s.slots.length := by
  by_contra out
  simp [slot_of_not_lt s out, Slot.empty] at h

/-- Reading the slot table after one slot was written. -/
theorem slot_of_slots_eq_set {s t : State} {j : Nat} {sl : Slot} (ht : t.slots = s.slots.set j sl)
    (hj : j < s.slots.length) (i : Nat) : t.slot i = if i = j then sl else s.slot i := by
  split
  next h => simp [State.slot, ht, h, hj]
  next h => simp [State.slot, ht, List.getElem?_set_ne (Ne.symm h)]

/-- No MAC is in two used slots (10_state.md R25). -/
theorem slot_eq_of_mac_eq {slots : List Slot} (h : SlotsWf slots) {i j : Nat} (hi : i < slots.length)
    (hj : j < slots.length) (ui : slots[i].used = true) (uj : slots[j].used = true) (hm : slots[i].mac = slots[j].mac) :
    i = j := by
  obtain ⟨-, -, apart⟩ := h
  rw [List.pairwise_iff_getElem] at apart
  rcases Nat.lt_trichotomy i j with lt | eq | gt
  · exact absurd hm (apart i j hi hj lt ui uj)
  · exact eq
  · exact absurd hm.symm (apart j i hj hi gt uj ui)

/-- Writing a used slot with a key keeps the slot table's form when no other used slot has its MAC. -/
theorem slotsWf_set {slots : List Slot} (h : SlotsWf slots) {j : Nat} {sl : Slot} (used : sl.used = true)
    (keyOk : sl.keyOk = true) (tracker : sl.seen = false → sl.lastCtr = 0)
    (other : ∀ i, (hi : i < slots.length) → i ≠ j → slots[i].used = true → slots[i].mac ≠ sl.mac) :
    SlotsWf (slots.set j sl) := by
  obtain ⟨size, each, apart⟩ := h
  refine ⟨by simpa using size, fun x hx => ?_, ?_⟩
  · rcases List.mem_or_eq_of_mem_set hx with old | rfl
    · exact each x old
    · exact ⟨by simp [used], fun _ => keyOk, tracker⟩
  · rw [List.pairwise_iff_getElem] at apart ⊢
    intro a b ha hb lt
    simp only [List.length_set] at ha hb
    simp only [List.getElem_set]
    split <;> split
    · omega
    · exact fun _ ub => (other b hb (by omega) ub).symm
    · exact fun ua _ => other a ha (by omega) ua
    · exact apart a b ha hb lt

/-- Settles O15: `lookup`'s specification, and the uniqueness that the slot table's form gives. -/
theorem lookupFindsTheOnlySlot : Obligations.LookupFindsTheOnlySlot := by
  intro s mac
  have least (i : Nat) : lookup s.slots mac = some i ↔ i < s.slots.length ∧ (s.slot i).used = true ∧
      (s.slot i).mac = mac ∧ ∀ j, j < i → (s.slot j).used = true → (s.slot j).mac ≠ mac := by
    rw [lookup_eq_some]
    constructor
    · rintro ⟨lt, used, hmac, first⟩
      refine ⟨lt, by rwa [s.slot_of_lt lt], by rwa [s.slot_of_lt lt], fun j hj => ?_⟩
      rw [s.slot_of_lt (hj.trans lt)]
      exact first j hj
    · rintro ⟨lt, used, hmac, first⟩
      rw [s.slot_of_lt lt] at used hmac
      exact ⟨lt, used, hmac, fun j hj => s.slot_of_lt (hj.trans lt) ▸ first j hj⟩
  refine ⟨least, lookup_eq_none, fun inv i j hi uj hm => ?_⟩
  obtain ⟨lt, used, hmac, -⟩ := lookup_eq_some.mp hi
  have ltj := lt_length_of_used uj
  rw [s.slot_of_lt ltj] at uj hm
  exact slot_eq_of_mac_eq inv.slots ltj lt uj used (hm.trans hmac.symm)

/-! ### Field registers (10_state.md R38, 43_record_decoders.md R200, R201) -/

/-- A register that `writeField` writes is as R38 says, for every kind and position. -/
theorem fieldWf_writeField (kind : BitVec 2) (k : Nat) (sentinel : Option Nat) (value : Nat → Int) (raw : Option Nat) :
    FieldWf kind k (writeField sentinel value raw) := by
  rcases writeField_cases sentinel value raw with ⟨-, e⟩ | ⟨r, -, -, e⟩ | ⟨r, -, -, e⟩ <;> simp [FieldWf, e, FieldReg.zero]

theorem fieldWf_zero (kind : BitVec 2) (k : Nat) : FieldWf kind k FieldReg.zero := by simp [FieldWf, FieldReg.zero]

/-- The four ways the aux value's register is written (43_record_decoders.md R206). -/
theorem writeAux_cases (aux type : Option Nat) :
    (writeAux aux type).v = false ∧ (writeAux aux type).val = 0 ∨
    writeAux aux type = writeField (some bmAuxSignedSentinel) (sext 16) aux ∨
    writeAux aux type = writeField (some bmAuxUnsignedSentinel) unsignedValue aux ∨
    writeAux aux type = writeField (some bmAuxUnsignedSentinel) (fun r => (r : Int) - kelvinOffset) aux := by
  unfold writeAux
  split
  · exact .inl ⟨rfl, rfl⟩
  · exact .inr (.inl rfl)
  · exact .inr (.inr (.inl rfl))
  · exact .inr (.inr (.inr rfl))
  · exact .inl ⟨rfl, rfl⟩

theorem fieldWf_writeAux (kind : BitVec 2) (k : Nat) (aux type : Option Nat) : FieldWf kind k (writeAux aux type) := by
  rcases writeAux_cases aux type with ⟨v, val⟩ | e | e | e
  · exact ⟨fun _ => val, by simp [v]⟩
  all_goals rw [e]; exact fieldWf_writeField ..

/-- The three sources of the derived power (43_record_decoders.md R216). -/
theorem derivedPower_cases (volt cur pv : FieldReg) :
    (pv.v = true ∧ derivedPower volt cur pv = (⟨false, true, toReg32 (pv.val.toInt * 1000)⟩, ⟨false, true, 1⟩)) ∨
    (volt.v = true ∧ cur.v = true ∧
      derivedPower volt cur pv = (⟨false, true, toReg32 (volt.val.toInt * cur.val.toInt)⟩, ⟨false, true, 2⟩)) ∨
    derivedPower volt cur pv = (⟨false, false, 0⟩, ⟨false, true, 0⟩) := by
  unfold derivedPower
  split
  next h => exact .inl ⟨h.1, rfl⟩
  split
  next h => exact .inr (.inl ⟨h.1, h.2, rfl⟩)
  exact .inr (.inr rfl)

theorem fieldWf_derivedPower (volt cur pv : FieldReg) :
    FieldWf 2 7 (derivedPower volt cur pv).1 ∧ FieldWf 2 8 (derivedPower volt cur pv).2 := by
  rcases derivedPower_cases volt cur pv with ⟨-, e⟩ | ⟨-, -, e⟩ | e <;> simp [FieldWf, e]

/-- The registers of a decoded record are as R38 says. -/
theorem fieldWf_decodeRecord (p : Params) (kind : RecordKind) (pt : Bytes) (k : Fin 11) :
    FieldWf (kindCode (.supported kind)) k (decodeRecord p kind pt)[k] := by
  cases kind with
  | batteryMonitor =>
    match k with
    | 0 | 1 | 2 | 4 | 5 | 6 | 7 => exact fieldWf_writeField ..
    | 3 => exact fieldWf_writeAux ..
    | 8 | 9 | 10 => exact fieldWf_zero ..
  | solarCharger =>
    match k with
    | 0 | 1 | 2 | 3 | 4 | 5 | 6 => exact fieldWf_writeField ..
    | 7 => exact (fieldWf_derivedPower ..).1
    | 8 => exact (fieldWf_derivedPower ..).2
    | 9 | 10 => exact fieldWf_zero ..
  | acCharger =>
    match k with
    | 0 | 1 | 2 | 3 | 4 | 5 | 6 | 7 | 8 | 9 => exact fieldWf_writeField ..
    | 10 => exact fieldWf_zero ..

/-! ### The search (44_offset_search_decode.md R241) -/

/-- What the search delivers of the offsets tried is a decoded record, at an offset that was tried. -/
theorem firstPlausible_eq_some {p : Params} {kind : RecordKind} {key : Block} {c : BitVec 16} {ct : Bytes} {n o : Nat}
    {found : SearchResult} (h : firstPlausible p kind key c ct n o = some found) :
    found.offset < o + n ∧ ∃ pt, found.reading = decodeRecord p kind pt := by
  induction n generalizing o with
  | zero => cases h
  | succ n ih =>
    simp only [firstPlausible] at h
    split at h
    · injection h with h
      subst h
      exact ⟨by simp, _, rfl⟩
    · obtain ⟨bound, record⟩ := ih h
      exact ⟨by omega, record⟩

/-- The search delivers a decoded record, at an offset `0 .. 6` (10_state.md R37). -/
theorem search_spec (p : Params) (kind : RecordKind) (key : Block) (c : BitVec 16) (ct : Bytes) :
    (search p kind key c ct).offset < 7 ∧ ∃ pt, (search p kind key c ct).reading = decodeRecord p kind pt := by
  unfold search
  split
  next r found =>
    obtain ⟨bound, record⟩ := firstPlausible_eq_some found
    exact ⟨by unfold offsetsTried at bound; omega, record⟩
  next =>
    refine ⟨by simp, ?_⟩
    dsimp only
    split
    · exact ⟨_, rfl⟩
    · exact ⟨_, rfl⟩

/-! ### The result registers (10_state.md R31 to R40) -/

/-- The result registers of a command that has delivered no reading: a status that can appear, and cleared registers where
only a reading writes. -/
structure NoReading (r : Results) : Prop where
  status : ∃ st : Status, st ≠ .cipherFail ∧ r.rStatus = st.code
  emit : r.rEmit = false
  rssi : r.rRssiV = false → r.rRssi = 0
  offset : r.rOffset = 0
  fields : r.fields = Fields.zero
  data : r.rDlen.toNat = r.rData.length

/-- The codes of R280 without the reserved one are the codes of the invariant. -/
theorem code_mem {st : Status} (h : st ≠ .cipherFail) :
    st.code ∈ ([0x00, 0x01, 0x02, 0x03, 0x04, 0x05, 0x06, 0x10, 0x11, 0x12, 0x13, 0x20, 0x21, 0x2F] : List (BitVec 8)) := by
  cases st
  case cipherFail => exact absurd rfl h
  all_goals decide

theorem fields_zero_getElem (k : Fin 11) : Fields.zero[k] = FieldReg.zero := by simp [Fields.zero]

theorem resultsWf_of_noReading {r : Results} (h : NoReading r) : ResultsWf r := by
  obtain ⟨st, reported, status⟩ := h.status
  refine ⟨status ▸ code_mem reported, by simp [h.emit], h.rssi, by simp [h.offset], h.data, fun k => ?_⟩
  rw [h.fields, fields_zero_getElem]
  exact fieldWf_zero ..

theorem noReading_zero : NoReading Results.zero :=
  ⟨⟨.ok, by decide, rfl⟩, rfl, fun _ => rfl, rfl, rfl, rfl⟩

/-- A status that can appear, written over registers without a reading. -/
theorem noReading_status {r : Results} (h : NoReading r) {st : Status} (reported : st ≠ .cipherFail) :
    NoReading { r with rStatus := st.code } :=
  { h with status := ⟨st, reported, rfl⟩ }

/-- The registers after stage 1 of DECODE (44_offset_search_decode.md R247). -/
theorem noReading_begun (env : Envelope) : NoReading (begun env) :=
  { noReading_zero with rssi := fun invalid => if_neg (by simpa [begun] using invalid) }

/-- The registers once a DECODE has parsed the header. -/
theorem noReading_withHeader (env : Envelope) (kind : BitVec 2) (model : BitVec 16) (mode : Byte) (c : BitVec 16)
    (ctlen : Nat) : NoReading (withHeader env kind model mode c ctlen) :=
  { noReading_begun env with }

/-- A delivered reading: the registers of a supported kind that had none, with the reading, its offset and the emission. -/
theorem resultsWf_deliver {r : Results} (h : NoReading r) (ok : r.rStatus = 0x00) {kind : RecordKind}
    (hkind : r.rKind = kindCode (.supported kind)) (p : Params) (key : Block) (c : BitVec 16) (ct : Bytes) :
    ResultsWf { r with
      fields := (search p kind key c ct).reading, rOffset := BitVec.ofNat 3 (search p kind key c ct).offset,
      rPlaus := (search p kind key c ct).plaus, rEmit := true } := by
  obtain ⟨bound, pt, record⟩ := search_spec p kind key c ct
  have supported : r.rKind ≠ 0 := by rw [hkind]; cases kind <;> decide
  refine ⟨by simp [ok], fun _ => ⟨ok, supported⟩, h.rssi, fun seven => ?_, h.data, fun k => ?_⟩
  · have := congrArg BitVec.toNat seven
    simp at this
    omega
  · dsimp only
    rw [hkind, record]
    exact fieldWf_decodeRecord p kind pt k

theorem length_ctr (inc : CtrInc) (key : Block) (c : BitVec 16) (data : Bytes) : (ctr inc key c data).length = data.length := by
  simp [ctr, length_keystream]
  omega

/-! ### The commands that are no DECODE, in the frame of every command -/

theorem exec_bropen (bytes : Bytes) (s : State) : exec (.bropen bytes) s = s.accept (·.openReader bytes) := rfl

theorem exec_brcan (n : Byte) (s : State) :
    exec (.brcan n) s =
      s.accept fun s => s.setRes fun r => { r with rBool := canRead s.brLen s.brCur n.toNat } := rfl

theorem exec_brreads (n : Byte) (s : State) :
    exec (.brreads n) s = s.accept (·.bitFieldRead n.toNat fun v => toReg32 (sext n.toNat v)) := rfl

theorem exec_classify (model : BitVec 16) (mode : Byte) (s : State) :
    exec (.classify model mode) s =
      s.accept (·.setRes fun r => { r with rKind := kindCode (classify model mode), rModel := model, rMode := mode }) := rfl

theorem exec_decrec (kind : RecordKind) (pt : Bytes) (s : State) :
    exec (.decrec kind pt) s =
      s.accept (·.emptyReader.setRes fun r =>
        { r with
          rKind := kindCode (.supported kind), fields := decodeRecord Config.params kind pt,
          rPlaus := plausible Config.params kind (decodeRecord Config.params kind pt) }) := rfl

/-! ### What an accepted command does -/

/-- How a DECODE runs, under any row (44_offset_search_decode.md R247): stage 1, and then a skip before the header is
recorded, or the frame's header recorded and the frame dispatched. -/
inductive Transacts (i : Instr) : Prop
  | skips (env : Envelope) (st : Status) (early : st = .skipTooLong ∨ st = .skipTooShort ∨ st = .skipRecordType)
      (h : ∀ s, exec i s = s.accept fun s => (s.beginDecode env).raise st)
  | dispatches (env : Envelope) (kind : DeviceKind) (f : Frame)
      (h : ∀ s, exec i s = s.accept fun s => ((s.beginDecode env).recordHeader f).dispatchFrame kind env.mac f)

theorem transacts_of_acceptFrame {i : Instr} {env : Envelope} {kind : DeviceKind} {model : BitVec 16} {mode : Byte}
    {c : BitVec 16} {ct : Bytes} (h : ∀ s, exec i s = s.acceptFrame env kind model mode c ct) : Transacts i :=
  .dispatches env kind ⟨0x10, model, mode, c, ct⟩ h

theorem transacts_decode (env : Envelope) (raw : Bytes) : Transacts (.decode env raw) := by
  by_cases long : Config.params.bufMax < raw.length
  · exact .skips env .skipTooLong (.inl rfl) fun s => by simp only [exec, execDecode, if_pos long]
  cases header : parseHeader raw with
  | tooShort =>
    exact .skips env .skipTooShort (.inr (.inl rfl)) fun s => by simp only [exec, execDecode, if_neg long, header]
  | unsupportedRecordType =>
    exact .skips env .skipRecordType (.inr (.inr rfl)) fun s => by simp only [exec, execDecode, if_neg long, header]
  | frame f =>
    exact .dispatches env (classify f.modelId f.mode) f fun s => by simp only [exec, execDecode, if_neg long, header]

theorem transacts_of_isDecode {i : Instr} (h : IsDecode i) : Transacts i := by
  rcases h with frame | ⟨env, raw, rfl⟩
  · cases i
    case advOthermarker env _ _ _ _ _ => exact .skips env .skipRecordType (.inr (.inr rfl)) fun _ => rfl
    case reset | keyload | decode | ctrcrypt | bropen | brcan | brreadu | brreads | parsehdr | classify | decrec =>
      simp [Instr.frame] at frame
    all_goals exact transacts_of_acceptFrame fun _ => rfl
  · exact transacts_decode env raw

/-- Everything that the execution of an instruction other than RESET can do to an unfaulted block. -/
inductive Effect (i : Instr) (s : State) : State → Prop
  /-- A command that only answers: BRCAN, PARSEHDR, CLASSIFY, and the errors of KEYLOAD and CTRCRYPT. -/
  | answer {r : Results} (other : ¬ IsDecode i) (quiet : NoReading r) : Effect i s { s with res := r }
  /-- CTRCRYPT with a key. -/
  | crypt {kbytes : Bytes} {c : BitVec 16} {data : Bytes} (key : Block) (hi : i = .ctrcrypt kbytes c data) :
      Effect i s { s with res :=
        { Results.zero with rDlen := lengthByte data, rData := ctr Config.params.ctrInc key c data } }
  /-- KEYLOAD of a new MAC into the first free slot. -/
  | provision {mac : Mac} {j : Nat} (key : Block) (other : ¬ IsDecode i) (new : lookup s.slots mac = none)
      (free : firstFree s.slots = some j) : Effect i s (s.clearResults.provision j mac key)
  /-- BROPEN. -/
  | opened {bytes : Bytes} (hi : i = .bropen bytes) : Effect i s (s.clearResults.openReader bytes)
  /-- BRREADU and BRREADS. -/
  | read (n : Nat) (result : Nat → BitVec 32) (other : ¬ IsDecode i) : Effect i s (s.clearResults.bitFieldRead n result)
  /-- DECREC. -/
  | record (kind : RecordKind) (pt : Bytes) (other : ¬ IsDecode i) :
      Effect i s (emptied s { Results.zero with
        rKind := kindCode (.supported kind), fields := decodeRecord Config.params kind pt,
        rPlaus := plausible Config.params kind (decodeRecord Config.params kind pt) })
  /-- A DECODE that skips. -/
  | skip {r : Results} (decode : IsDecode i) (quiet : NoReading r) (status : r.rStatus ≠ 0x00) : Effect i s (emptied s r)
  /-- A DECODE that emits, for the device of slot `j`. -/
  | emit {r : Results} {kind : RecordKind} {mac : Mac} {j : Nat} (c : BitVec 16) (ct : Bytes) (decode : IsDecode i)
      (quiet : NoReading r) (ok : r.rStatus = 0x00) (hkind : r.rKind = kindCode (.supported kind))
      (found : lookup s.slots mac = some j) (keyOk : (s.slot j).keyOk = true) :
      Effect i s ((emptied s r).deliver j c (search Config.params kind (s.slot j).key c ct))

/-- A DECODE that raises one of its skips, from registers without a reading. -/
theorem effect_skip {i : Instr} {s : State} {r : Results} (decode : IsDecode i) (quiet : NoReading r) {st : Status}
    (reported : st ≠ .cipherFail) (notOk : st.code ≠ 0x00) (notSticky : st.sticky = false) :
    Effect i s ((emptied s r).raise st) := by
  rw [State.raise_of_not_sticky _ notSticky]
  exact .skip decode (noReading_status quiet reported) notOk

/-- A frame of a supported kind reaches the key lookup with the registers of its header (R247 stages 1 to 4). -/
theorem dispatchFrame_supported (s : State) (env : Envelope) (kind : RecordKind) (f : Frame) :
    ((s.clearResults.beginDecode env).recordHeader f).dispatchFrame (.supported kind) env.mac f =
      (emptied s (withHeader env (kindCode (.supported kind)) f.modelId f.mode f.counter f.ciphertext.length)).decryptAndDeliver
        kind env.mac f := rfl

/-- Stages 4 to 8 of a DECODE. -/
theorem effect_dispatchFrame {i : Instr} (s : State) (decode : IsDecode i) (env : Envelope) (kind : DeviceKind) (f : Frame) :
    Effect i s (((s.clearResults.beginDecode env).recordHeader f).dispatchFrame kind env.mac f) := by
  have quiet := noReading_withHeader env (kindCode kind) f.modelId f.mode f.counter f.ciphertext.length
  cases kind with
  | unsupported => exact effect_skip decode quiet (st := .skipUnsupported) (by decide) (by decide) rfl
  | supported kind =>
    rw [dispatchFrame_supported]
    rcases State.decryptAndDeliver_cases (emptied s (withHeader env (kindCode (.supported kind)) f.modelId f.mode f.counter
      f.ciphertext.length)) kind env.mac f with ⟨-, e⟩ | ⟨j, found, ⟨-, e⟩ | ⟨-, -, e⟩ | ⟨keyOk, -, e⟩⟩ <;> rw [e]
    · exact effect_skip decode quiet (by decide) (by decide) rfl
    · exact effect_skip decode quiet (by decide) (by decide) rfl
    · exact effect_skip decode quiet (by decide) (by decide) rfl
    · exact .emit f.counter f.ciphertext decode quiet rfl rfl found keyOk

/-- In an unfaulted block a command in the common frame is its rule on cleared result registers. -/
theorem eq_of_accept_eq {s t : State} {rule : State → State} (hf : s.fault = false) (h : s.accept rule = .next t) :
    t = rule s.clearResults := by
  rw [State.accept_of_usable hf] at h
  injection h with h
  exact h.symm

theorem effect_of_isDecode {i : Instr} {s t : State} (decode : IsDecode i) (hf : s.fault = false)
    (h : exec i s = .next t) : Effect i s t := by
  cases transacts_of_isDecode decode with
  | skips env st early run =>
    obtain rfl := eq_of_accept_eq hf (run s ▸ h)
    rcases early with rfl | rfl | rfl <;>
      exact effect_skip (s := s) decode (noReading_begun env) (by decide) (by decide) rfl
  | dispatches env kind f run =>
    obtain rfl := eq_of_accept_eq hf (run s ▸ h)
    exact effect_dispatchFrame s decode env kind f

/-- A command other than DECODE that raises an error or a skip. -/
theorem effect_raise {i : Instr} (s : State) (other : ¬ IsDecode i) {st : Status} (reported : st ≠ .cipherFail)
    (notSticky : st.sticky = false) : Effect i s (s.clearResults.raise st) := by
  rw [State.raise_of_not_sticky _ notSticky]
  exact .answer other (noReading_status noReading_zero reported)

theorem effect_keyload {s t : State} {mac : Mac} {kbytes : Bytes} (hf : s.fault = false)
    (h : exec (.keyload mac kbytes) s = .next t) : Effect (.keyload mac kbytes) s t := by
  have other : ¬ IsDecode (.keyload mac kbytes) := by simp [IsDecode, Instr.frame]
  simp only [exec, execKeyload] at h
  obtain rfl := eq_of_accept_eq hf h
  split
  next => exact effect_raise s other (by decide) rfl
  next key _ =>
    split
    next => exact effect_raise s other (by decide) rfl
    next new =>
      split
      next => exact effect_raise s other (by decide) rfl
      next j free => exact .provision key other (by simpa using new) free

theorem effect_ctrcrypt {s t : State} {kbytes data : Bytes} {c : BitVec 16} (hf : s.fault = false)
    (h : exec (.ctrcrypt kbytes c data) s = .next t) : Effect (.ctrcrypt kbytes c data) s t := by
  simp only [exec, execCtrcrypt] at h
  obtain rfl := eq_of_accept_eq hf h
  split
  next => exact effect_raise s (by simp [IsDecode, Instr.frame]) (by decide) rfl
  next key _ => exact .crypt key rfl

theorem effect_parsehdr {s t : State} {raw : Bytes} (hf : s.fault = false) (h : exec (.parsehdr raw) s = .next t) :
    Effect (.parsehdr raw) s t := by
  have other : ¬ IsDecode (.parsehdr raw) := by simp [IsDecode, Instr.frame]
  simp only [exec, execParsehdr] at h
  obtain rfl := eq_of_accept_eq hf h
  split
  next => exact effect_raise s other (by decide) rfl
  next => exact effect_raise s other (by decide) rfl
  next f _ => exact .answer other { noReading_zero with }

/-- Everything an instruction other than RESET can do to an unfaulted block. -/
theorem effect_of_exec {i : Instr} {s t : State} (hi : i ≠ .reset) (hf : s.fault = false) (h : exec i s = .next t) :
    Effect i s t := by
  by_cases decode : IsDecode i
  · exact effect_of_isDecode decode hf h
  cases i
  case reset => exact absurd rfl hi
  case keyload => exact effect_keyload hf h
  case ctrcrypt => exact effect_ctrcrypt hf h
  case parsehdr => exact effect_parsehdr hf h
  case bropen bytes =>
    obtain rfl := eq_of_accept_eq hf (exec_bropen .. ▸ h)
    exact .opened rfl
  case brcan n =>
    obtain rfl := eq_of_accept_eq hf (exec_brcan .. ▸ h)
    exact .answer decode { noReading_zero with }
  case brreadu n =>
    obtain rfl := eq_of_accept_eq hf (exec_brreadu .. ▸ h)
    exact .read n.toNat _ decode
  case brreads n =>
    obtain rfl := eq_of_accept_eq hf (exec_brreads .. ▸ h)
    exact .read n.toNat _ decode
  case classify model mode =>
    obtain rfl := eq_of_accept_eq hf (exec_classify .. ▸ h)
    exact .answer decode { noReading_zero with }
  case decrec kind pt =>
    obtain rfl := eq_of_accept_eq hf (exec_decrec .. ▸ h)
    exact .record kind pt decode
  case decode env raw => exact absurd (isDecode_decode env raw) decode
  all_goals exact absurd (isDecode_of_frame rfl) decode

/-! ### What an accepted command does to the slot table -/

theorem bitFieldRead_slots (s : State) (n : Nat) (result : Nat → BitVec 32) : (s.bitFieldRead n result).slots = s.slots := by
  rcases s.bitFieldRead_cases n result with ⟨-, e⟩ | ⟨-, -, e⟩ | ⟨-, -, e⟩ <;> rw [e] <;> rfl

/-- The slot table is written by a KEYLOAD that takes the first free slot and by a DECODE that emits (10_state.md R26, R27). -/
theorem Effect.slots_cases {i : Instr} {s t : State} (h : Effect i s t) :
    t.slots = s.slots ∨
    (∃ mac key j, lookup s.slots mac = none ∧ firstFree s.slots = some j ∧
      t.slots = s.slots.set j ⟨true, mac, true, key, false, 0⟩) ∨
    (∃ mac j c, lookup s.slots mac = some j ∧ (s.slot j).keyOk = true ∧
      t.slots = s.slots.set j { s.slot j with seen := true, lastCtr := c }) := by
  cases h with
  | provision key other new free => exact .inr (.inl ⟨_, key, _, new, free, rfl⟩)
  | emit c ct decode quiet ok hkind found keyOk => exact .inr (.inr ⟨_, _, c, found, keyOk, rfl⟩)
  | read n result => exact .inl (bitFieldRead_slots ..)
  | _ => exact .inl rfl

/-- A slot that is used for the same device, with the same key, as before. -/
def SameIdentity (before after : Slot) : Prop :=
  after.used = true ∧ after.mac = before.mac ∧ after.key = before.key ∧ after.keyOk = before.keyOk

theorem sameIdentity_self {sl : Slot} (used : sl.used = true) : SameIdentity sl sl := ⟨used, rfl, rfl, rfl⟩

/-- A used slot keeps its identity in an accepted command: KEYLOAD takes an unused slot, and DECODE writes the tracker only
(10_state.md R26). -/
theorem Effect.sameIdentity {i : Instr} {s t : State} (h : Effect i s t) {n : Nat} (used : (s.slot n).used = true) :
    SameIdentity (s.slot n) (t.slot n) := by
  rcases h.slots_cases with e | ⟨mac, key, j, -, free, e⟩ | ⟨mac, j, c, found, -, e⟩
  · have same : t.slot n = s.slot n := by simp only [State.slot, e]
    rw [same]
    exact sameIdentity_self used
  · obtain ⟨lt, unused, -⟩ := firstFree_eq_some.mp free
    have apart : n ≠ j := by
      rintro rfl
      simp [s.slot_of_lt lt, unused] at used
    rw [slot_of_slots_eq_set e lt, if_neg apart]
    exact sameIdentity_self used
  · obtain ⟨lt, -⟩ := lookup_eq_some.mp found
    rw [slot_of_slots_eq_set e lt]
    split
    next same => subst same; exact ⟨used, rfl, rfl, rfl⟩
    next => exact sameIdentity_self used

/-- An accepted command keeps the slot table's form: KEYLOAD's MAC is new, and DECODE's slot has a key. -/
theorem Effect.slotsWf {i : Instr} {s t : State} (h : Effect i s t) (wf : SlotsWf s.slots) : SlotsWf t.slots := by
  rcases h.slots_cases with e | ⟨mac, key, j, new, -, e⟩ | ⟨mac, j, c, found, keyOk, e⟩ <;> rw [e]
  · exact wf
  · exact slotsWf_set wf rfl rfl (fun _ => rfl) fun k hk _ used => lookup_eq_none.mp new _ (List.getElem_mem hk) used
  · obtain ⟨lt, used, -⟩ := lookup_eq_some.mp found
    have here := s.slot_of_lt lt
    refine slotsWf_set wf (by rw [here]; exact used) keyOk (by simp) fun k hk apart usedk same => apart ?_
    rw [here] at same
    exact slot_eq_of_mac_eq wf hk lt usedk used same

/-! ### The invariant -/

/-- A usable block keeps the invariant when its slots, reader and result registers do. -/
theorem inv_of_usable {t : State} (slots : SlotsWf t.slots) (reader : t.ReaderWf) (results : ResultsWf t.res)
    (hf : t.fault = false) (hc : t.faultCode = 0) : t.Inv :=
  ⟨slots, reader, results, ⟨fun _ => hc, by simp [hf]⟩, by simp [State.FaultedShowsStatus, hf]⟩

/-- A faulted block keeps the invariant when it shows nothing but a status. -/
theorem inv_of_faulted {t : State} (slots : SlotsWf t.slots) (reader : t.ReaderWf) (hf : t.fault = true)
    (hc : t.faultCode = 0x20 ∨ t.faultCode = 0x21) {st : Status} (reported : st ≠ .cipherFail)
    (hr : t.res = { Results.zero with rStatus := st.code }) : t.Inv :=
  ⟨slots, reader, hr ▸ resultsWf_of_noReading (noReading_status noReading_zero reported), ⟨by simp [hf], fun _ => hc⟩,
    fun _ => by rw [hr]⟩

theorem inv_toReset (s : State) : s.toReset.Inv :=
  inv_of_usable (by simp only [State.toReset_slots]; decide) s.readerWf_emptyReader (resultsWf_of_noReading noReading_zero) rfl rfl

/-- The refusal of a faulted block writes its status only (60_exceptions.md R290). -/
theorem inv_refuseFaulted {s : State} (inv : s.Inv) (hf : s.fault = true) : s.refuseFaulted.Inv :=
  inv_of_faulted inv.slots inv.reader hf (inv.fault.2 hf) (st := .faulted) (by decide)
    (by rw [State.refuseFaulted_res, inv.faulted hf])

/-- A bit-field read raises one of the two sticky faults on cleared registers, or moves the cursor inside the buffer. -/
theorem inv_bitFieldRead {s : State} (inv : s.Inv) (hf : s.fault = false) (n : Nat) (result : Nat → BitVec 32) :
    (s.clearResults.bitFieldRead n result).Inv := by
  have reader : (s.clearResults.bitFieldRead n result).ReaderWf :=
    State.readerWf_bitFieldRead (s := s.clearResults) inv.reader n result
  have slots : SlotsWf (s.clearResults.bitFieldRead n result).slots := bitFieldRead_slots s.clearResults n result ▸ inv.slots
  rcases s.clearResults.bitFieldRead_cases n result with ⟨-, e⟩ | ⟨-, -, e⟩ | ⟨-, -, e⟩ <;> rw [e] at reader slots ⊢
  · exact inv_of_faulted slots reader (by simp [Status.sticky]) (.inr rfl) (st := .faultBrWidth) (by decide) rfl
  · exact inv_of_faulted slots reader (by simp [Status.sticky]) (.inl rfl) (st := .faultBrExhausted) (by decide) rfl
  · exact inv_of_usable slots reader (resultsWf_of_noReading { noReading_zero with }) hf (inv.fault.1 hf)

/-- A DECREC's registers (43_record_decoders.md R230). -/
theorem resultsWf_record (p : Params) (kind : RecordKind) (pt : Bytes) (plaus : Bool) :
    ResultsWf { Results.zero with
      rKind := kindCode (.supported kind), fields := decodeRecord p kind pt, rPlaus := plaus } :=
  ⟨by simp [Results.zero], by simp [Results.zero], fun _ => rfl, by simp [Results.zero], rfl, fieldWf_decodeRecord p kind pt⟩

/-- An accepted command with operands within their bounds keeps the invariant. -/
theorem Effect.inv {i : Instr} {s t : State} (h : Effect i s t) (wf : i.wf = true) (inv : s.Inv) (hf : s.fault = false) :
    t.Inv := by
  have slots := h.slotsWf inv.slots
  have code := inv.fault.1 hf
  cases h with
  | answer _ quiet => exact inv_of_usable slots inv.reader (resultsWf_of_noReading quiet) hf code
  | @crypt kbytes c data key hi =>
    have bound : data.length ≤ 31 := by
      rw [hi] at wf
      exact fitsBuffer_iff.mp (Bool.and_eq_true_iff.mp wf).2
    refine inv_of_usable slots inv.reader (resultsWf_of_noReading { noReading_zero with data := ?_ }) hf code
    simp [lengthByte, length_ctr]
    omega
  | provision => exact inv_of_usable slots inv.reader (resultsWf_of_noReading { noReading_zero with }) hf code
  | opened hi =>
    have bound := fitsBuffer_iff.mp (hi ▸ wf)
    exact inv_of_usable slots (s.readerWf_openReader bound) (resultsWf_of_noReading noReading_zero) hf code
  | read n result => exact inv_bitFieldRead inv hf n result
  | record kind pt => exact inv_of_usable slots s.readerWf_emptyReader (resultsWf_record _ kind pt _) hf code
  | skip _ quiet => exact inv_of_usable slots s.readerWf_emptyReader (resultsWf_of_noReading quiet) hf code
  | emit c ct _ quiet ok hkind =>
    exact inv_of_usable slots s.readerWf_emptyReader (resultsWf_deliver quiet ok hkind _ _ c ct) hf code

/-- A command other than RESET meets a faulted block with the refusal (60_exceptions.md R290). -/
theorem eq_refuseFaulted_of_exec {i : Instr} {s t : State} (hi : i ≠ .reset) (hf : s.fault = true)
    (h : exec i s = .next t) : t = s.refuseFaulted := by
  obtain ⟨rule, run⟩ := exec_accept i hi
  rw [run, State.accept_of_faulted hf] at h
  injection h with h
  exact h.symm

theorem inv_exec {i : Instr} {s t : State} (wf : i.wf = true) (inv : s.Inv) (h : exec i s = .next t) : t.Inv := by
  by_cases hi : i = .reset
  · subst hi
    injection h with h
    exact h ▸ inv_toReset s
  cases hf : s.fault
  case true => exact eq_refuseFaulted_of_exec hi hf h ▸ inv_refuseFaulted inv hf
  case false => exact (effect_of_exec hi hf h).inv wf inv hf

/-- A malformed command is refused, or answered on cleared registers (60_exceptions.md R288, R290). -/
theorem execMalformed_cases {s t : State} (h : execMalformed s = .next t) :
    (s.fault = true ∧ t = s.refuseFaulted) ∨
    (s.fault = false ∧ t = { s with res := { Results.zero with rStatus := Status.badCommand.code } }) := by
  rcases State.accept_cases h with ⟨hf, e⟩ | ⟨hf, e⟩
  · exact .inl ⟨hf, e⟩
  · exact .inr ⟨hf, e.trans (State.raise_of_not_sticky _ rfl)⟩

theorem inv_execMalformed {s t : State} (inv : s.Inv) (h : execMalformed s = .next t) : t.Inv := by
  rcases execMalformed_cases h with ⟨hf, rfl⟩ | ⟨hf, rfl⟩
  · exact inv_refuseFaulted inv hf
  · exact inv_of_usable inv.slots inv.reader
      (resultsWf_of_noReading (noReading_status noReading_zero (st := .badCommand) (by decide))) hf (inv.fault.1 hf)

/-- The invariant does not speak of the command port. -/
theorem inv_port {s : State} (inv : s.Inv) (port : List Bytes) : State.Inv { s with port := port } :=
  ⟨inv.slots, inv.reader, inv.results, inv.fault, inv.faulted⟩

/-- Settles O13: no command, a decoded and so well-formed one, or a malformed one. -/
theorem stepKeepsInvariant : Obligations.StepKeepsInvariant := by
  intro s t inv h
  rcases step_cases s with ⟨-, e⟩ | ⟨cmd, rest, i, -, decoded, e⟩ | ⟨cmd, rest, err, -, -, e⟩ <;> rw [e] at h
  · injection h with h
    exact h ▸ inv
  · exact inv_exec (wf_of_decodeCommand decoded) (inv_port inv rest) h
  · exact inv_execMalformed (inv_port inv rest) h

/-! ### Keys -/

/-- Only a RESET clears the table: a refused command leaves it, an accepted one keeps identities. -/
theorem sameIdentity_exec {i : Instr} {s t : State} (hi : i ≠ .reset) (h : exec i s = .next t) {n : Nat}
    (used : (s.slot n).used = true) : SameIdentity (s.slot n) (t.slot n) := by
  cases hf : s.fault
  case true => exact eq_refuseFaulted_of_exec hi hf h ▸ sameIdentity_self used
  case false => exact (effect_of_exec hi hf h).sameIdentity used

theorem sameIdentity_execMalformed {s t : State} (h : execMalformed s = .next t) {n : Nat}
    (used : (s.slot n).used = true) : SameIdentity (s.slot n) (t.slot n) := by
  rcases execMalformed_cases h with ⟨-, rfl⟩ | ⟨-, rfl⟩ <;> exact sameIdentity_self used

/-- Settles O14: a step runs no command, one that is no RESET, or a malformed one. -/
theorem keysAreImmutable : Obligations.KeysAreImmutable := by
  intro s t n h noReset used
  rcases step_cases s with ⟨-, e⟩ | ⟨cmd, rest, i, port, decoded, e⟩ | ⟨cmd, rest, err, -, -, e⟩ <;> rw [e] at h
  · injection h with h
    exact h ▸ sameIdentity_self used
  · have hi : i ≠ .reset := by
      rintro rfl
      simp [port, eq_of_decodeCommand_reset decoded] at noReset
    exact sameIdentity_exec hi h used
  · exact sameIdentity_execMalformed h used

/-! ### The emission flag (10_state.md R33) -/

theorem bitFieldRead_rEmit (s : State) (n : Nat) (result : Nat → BitVec 32) :
    (s.bitFieldRead n result).res.rEmit = s.res.rEmit := by
  rcases s.bitFieldRead_cases n result with ⟨-, e⟩ | ⟨-, -, e⟩ | ⟨-, -, e⟩ <;> rw [e] <;> rfl

/-- A block that refuses a command shows no emission. -/
theorem rEmit_refuseFaulted {s : State} (inv : s.Inv) (hf : s.fault = true) : s.refuseFaulted.res.rEmit = false := by
  rw [State.refuseFaulted_res, inv.faulted hf]
  rfl

theorem Effect.rEmit_iff {i : Instr} {s t : State} (h : Effect i s t) :
    t.res.rEmit = true ↔ IsDecode i ∧ t.res.rStatus = 0x00 := by
  cases h with
  | answer other quiet => simp [quiet.emit, other]
  | crypt key hi => simp [hi, IsDecode, Instr.frame, Results.zero]
  | provision _ other => simp [other, Results.zero]
  | opened hi => simp [hi, IsDecode, Instr.frame, Results.zero]
  | read n result other => simp [bitFieldRead_rEmit, other, Results.zero]
  | record kind pt other => simp [emptied, other, Results.zero]
  | skip decode quiet status => simpa [emptied, quiet.emit] using fun _ => status
  | emit c ct decode quiet ok => simp [emptied, ok, decode]

/-- Settles O56: RESET and a refusal show no emission, and of the accepted commands only an emitting DECODE does. -/
theorem emitMarksDecodeWithStatusOk : Obligations.EmitMarksDecodeWithStatusOk := by
  refine ⟨fun i s t inv h => ?_, fun s t inv h => ?_⟩
  · by_cases hi : i = .reset
    · subst hi
      injection h with h
      subst h
      simp [IsDecode, Instr.frame, Results.zero]
    cases hf : s.fault
    case true =>
      obtain rfl := eq_refuseFaulted_of_exec hi hf h
      rw [rEmit_refuseFaulted inv hf]
      simp [Status.code]
    case false => exact (effect_of_exec hi hf h).rEmit_iff
  · rcases execMalformed_cases h with ⟨hf, rfl⟩ | ⟨-, rfl⟩
    · exact rEmit_refuseFaulted inv hf
    · rfl

/-! ### The RSSI operand (45_host_commands.md R272) -/

/-- The state with another RSSI recorded. -/
def withRssi (s : State) (valid : Bool) (rssi : Byte) : State :=
  s.setRes fun r => { r with rRssiV := valid, rRssi := if valid then rssi else 0 }

/-- Stages 5 to 8 of DECODE do not look at the recorded RSSI. -/
theorem decryptAndDeliver_withRssi (s : State) (v : Bool) (x : Byte) (kind : RecordKind) (mac : Mac) (f : Frame) :
    (withRssi s v x).decryptAndDeliver kind mac f = withRssi (s.decryptAndDeliver kind mac f) v x := by
  have slots : (withRssi s v x).slots = s.slots := rfl
  have slot (i : Nat) : (withRssi s v x).slot i = s.slot i := rfl
  unfold State.decryptAndDeliver
  rw [slots]
  cases lookup s.slots mac with
  | none => rfl
  | some i =>
    dsimp only
    rw [slot]
    split_ifs <;> rfl

/-- DECODE with another RSSI operand is the same transaction, and then the other RSSI recorded. -/
theorem exec_decode_withRssi {s t : State} {mac : Mac} {v : Bool} {x : Byte} {raw : Bytes} (hf : s.fault = false)
    (h : exec (.decode ⟨mac, v, x⟩ raw) s = .next t) (v' : Bool) (x' : Byte) :
    exec (.decode ⟨mac, v', x'⟩ raw) s = .next (withRssi t v' x') := by
  simp only [exec, execDecode, State.accept_of_usable hf] at h ⊢
  injection h with h
  subst h
  split
  · rfl
  cases parseHeader raw with
  | tooShort => rfl
  | unsupportedRecordType => rfl
  | frame f =>
    dsimp only
    cases classify f.modelId f.mode with
    | unsupported => rfl
    | supported kind => exact congrArg _ (decryptAndDeliver_withRssi
      (emptied s (withHeader ⟨mac, v, x⟩ (kindCode (.supported kind)) f.modelId f.mode f.counter f.ciphertext.length))
      v' x' kind mac f)

/-- Settles O58. -/
theorem rssiIsNotExamined : Obligations.RssiIsNotExamined := by
  intro s t t' mac v v' x x' raw hf h h'
  rw [exec_decode_withRssi hf h] at h'
  injection h' with h'
  exact h'.symm

/-! ### Fresh result registers -/

/-- Settles O16: every instruction but RESET runs on cleared result registers, RESET and a malformed command as well. -/
theorem resultsAreFresh : Obligations.ResultsAreFresh := by
  refine ⟨fun i s r hf => ?_, fun s r hf => ?_, rfl⟩
  · by_cases hi : i = .reset
    · subst hi; rfl
    obtain ⟨rule, run⟩ := exec_accept i hi
    rw [run, run, State.accept_of_usable hf, State.accept_of_usable (s := { s with res := r }) hf]
    rfl
  · rw [execMalformed, execMalformed, State.accept_of_usable hf, State.accept_of_usable (s := { s with res := r }) hf]
    rfl

/-! ### The dispatcher (42_header_dispatch.md R185, R186) -/

/-- The model map (30_encoding.md R101): the table's entry, or unsupported. -/
theorem kindCode_classifyModel (model : BitVec 16) :
    kindCode (classifyModel model) =
      (([(0x6002, 2), (0x8302, 1), (0x2E00, 3)] : List (BitVec 16 × BitVec 2)).lookup model).getD 0 := by
  unfold classifyModel
  split
  next h => subst h; rfl
  next h1 =>
    split
    next h => subst h; rfl
    next h2 =>
      split
      next h => subst h; rfl
      next h3 =>
        simp only [List.lookup, beq_eq_false_iff_ne.mpr h1, beq_eq_false_iff_ne.mpr h2, beq_eq_false_iff_ne.mpr h3]
        rfl

/-- The dispatcher answers what the two tables give (30_encoding.md R100, R101). -/
theorem kindCode_classify (model : BitVec 16) (mode : Byte) : kindCode (classify model mode) = kindTable model mode := by
  by_cases h2 : mode = 0x02
  · subst h2; rfl
  by_cases h1 : mode = 0x01
  · subst h1; rfl
  by_cases h8 : mode = 0x08
  · subst h8; rfl
  have unmapped : ([(0x01, 2), (0x02, 1), (0x08, 3)] : List (Byte × BitVec 2)).lookup mode = none := by
    simp only [List.lookup, beq_eq_false_iff_ne.mpr h1, beq_eq_false_iff_ne.mpr h2, beq_eq_false_iff_ne.mpr h8]
  rw [classify, if_neg h2, if_neg h1, if_neg h8, kindTable, unmapped]
  dsimp only
  by_cases hd : mode = 0x0D
  · subst hd; rfl
  rw [if_neg hd, apply_ite kindCode, kindCode_classifyModel]
  rfl

/-- Settles O37. -/
theorem classifyFollowsTables : Obligations.ClassifyFollowsTables := by
  intro s model mode hf
  rw [exec_classify, State.accept_of_usable hf, kindCode_classify]
  rfl

/-! ### The range of a field register (10_state.md R41 to R43) -/

/-- A raw pattern that, if present, is below `n`. -/
def Below (n : Nat) (raw : Option Nat) : Prop := ∀ r, raw = some r → r < n

/-- A present field of a layout is below the power of its width. -/
theorem below_readFrom (pt : Bytes) (cur : Nat) (ws : List Nat) (j : Nat) :
    Below (2 ^ ws.getD j 0) (rawField (readFrom pt cur ws) j) := by
  induction ws generalizing cur j with
  | nil => simp [Below, readFrom, rawField]
  | cons w ws ih =>
    simp only [readFrom]
    split
    · cases j with
      | zero =>
        rintro r h
        simp only [rawField, List.getD_cons_zero, Option.some.injEq] at h
        exact h ▸ bitRead_lt pt cur w
      | succ j => exact ih (cur + w) j
    · intro r h
      cases j <;> simp [rawField, List.getD_eq_getElem?_getD] at h

theorem below_readFields (pt : Bytes) (skip : Nat) (ws : List Nat) (j : Nat) :
    Below (2 ^ ws.getD j 0) (rawField (readFields pt skip ws) j) := by
  unfold readFields
  split
  · exact below_readFrom pt skip ws j
  · intro r h
    simp [rawField, List.getD_eq_getElem?_getD] at h

/-- A value of 32-bit two's complement is kept by a register. -/
theorem toInt_toReg32 {x : Int} (lo : -2147483648 ≤ x) (hi : x ≤ 2147483647) : (toReg32 x).toInt = x :=
  BitVec.toInt_ofInt_eq_self (by decide) (by simpa using lo) (by simp; omega)

/-- An available field register holds the value of a pattern that is not the sentinel. -/
theorem writeField_available {sentinel : Option Nat} {value : Nat → Int} {raw : Option Nat}
    (h : (writeField sentinel value raw).v = true) :
    ∃ r, raw = some r ∧ sentinel ≠ some r ∧ (writeField sentinel value raw).val = toReg32 (value r) := by
  rcases writeField_cases sentinel value raw with ⟨-, e⟩ | ⟨r, -, -, e⟩ | ⟨r, hr, hs, e⟩
  · simp [e, FieldReg.zero] at h
  · simp [e] at h
  · exact ⟨r, hr, hs, by rw [e]⟩

/-- The range of a register is the range of its values, where that fits 32 bits. -/
theorem inRange_writeField {sentinel : Option Nat} {value : Nat → Int} {raw : Option Nat} {n : Nat} (below : Below n raw)
    {lo hi : Int} (h : ∀ r, r < n → sentinel ≠ some r → lo ≤ value r ∧ value r ≤ hi)
    (hlo : -2147483648 ≤ lo) (hhi : hi ≤ 2147483647) : InRange (writeField sentinel value raw) lo hi := by
  intro available
  obtain ⟨r, hr, hs, val⟩ := writeField_available available
  obtain ⟨low, high⟩ := h r (below r hr) hs
  rw [val, toInt_toReg32 (hlo.trans low) (high.trans hhi)]
  exact ⟨low, high⟩

/-- A value that no readable pattern other than the sentinel has is in no available register. -/
theorem toInt_ne_of_available {sentinel : Option Nat} {value : Nat → Int} {raw : Option Nat} {n : Nat}
    (below : Below n raw) {x : Int}
    (h : ∀ r, r < n → sentinel ≠ some r → -2147483648 ≤ value r ∧ value r ≤ 2147483647 ∧ value r ≠ x)
    (available : (writeField sentinel value raw).v = true) : (writeField sentinel value raw).val.toInt ≠ x := by
  obtain ⟨r, hr, hs, val⟩ := writeField_available available
  obtain ⟨low, high, ne⟩ := h r (below r hr) hs
  rwa [val, toInt_toReg32 low high]

/-- An unsigned field of patterns below `n`. -/
theorem inRange_unsigned {sentinel raw : Option Nat} {n : Nat} (below : Below n raw) {hi : Int} (top : (n : Int) ≤ hi + 1)
    (hhi : hi ≤ 2147483647) : InRange (writeField sentinel unsignedValue raw) 0 hi :=
  inRange_writeField below (fun r hr _ => by unfold unsignedValue; omega) (by decide) hhi

/-- An available unsigned field does not hold its sentinel. -/
theorem toInt_ne_sentinel {raw : Option Nat} {n k : Nat} (below : Below n raw) (small : n ≤ 2147483648) :
    (writeField (some k) unsignedValue raw).v = true → (writeField (some k) unsignedValue raw).val.toInt ≠ k :=
  toInt_ne_of_available below fun r hr hs => by
    have : k ≠ r := fun e => hs (congrArg some e)
    unfold unsignedValue
    omega

/-- A field of 20 bits whose value is negated, `consumed_ah` of the Battery Monitor (43_record_decoders.md R208). -/
theorem inRange_negated {raw : Option Nat} (below : Below 1048576 raw) :
    InRange (writeField none (fun r => -(r : Int)) raw) (-1048575) 0 :=
  inRange_writeField below (fun r hr _ => by omega) (by decide) (by decide)

/-- An unsigned field whose sentinel is its greatest pattern. -/
theorem inRange_unsigned_sentinel {raw : Option Nat} {k : Nat} (below : Below (k + 1) raw) {hi : Int}
    (top : (k : Int) ≤ hi + 1) (hhi : hi ≤ 2147483647) : InRange (writeField (some k) unsignedValue raw) 0 hi :=
  inRange_writeField below
    (fun r hr hs => by
      have : k ≠ r := fun e => hs (congrArg some e)
      unfold unsignedValue
      omega)
    (by decide) hhi

/-- `sext` of a 16-bit pattern other than `0x7FFF`, the sentinel of the signed 16-bit fields. -/
theorem sext16_range {r : Nat} (hr : r < 65536) (hs : (some 0x7FFF : Option Nat) ≠ some r) :
    -32768 ≤ sext 16 r ∧ sext 16 r ≤ 32766 := by
  have : 0x7FFF ≠ r := fun e => hs (congrArg some e)
  unfold sext
  split <;> omega

/-- A signed 16-bit field with sentinel `0x7FFF`. -/
theorem inRange_signed16 {raw : Option Nat} (below : Below 65536 raw) :
    InRange (writeField (some 0x7FFF) (sext 16) raw) (-32768) 32766 :=
  inRange_writeField below (fun _ hr hs => sext16_range hr hs) (by decide) (by decide)

/-- `sext` of a 22-bit pattern other than all ones, the Battery Monitor's current (43_record_decoders.md R207). -/
theorem sext22_range {r : Nat} (hr : r < 4194304) (hs : (some bmCurrentSentinel : Option Nat) ≠ some r) :
    -2097152 ≤ sext 22 r ∧ sext 22 r ≤ 2097151 ∧ sext 22 r ≠ -1 := by
  have : 0x3FFFFF ≠ r := fun e => hs (congrArg some e)
  unfold sext
  split <;> omega

theorem inRange_bmCurrent {raw : Option Nat} (below : Below 4194304 raw) :
    InRange (writeField (some bmCurrentSentinel) (sext 22) raw) (-2097152) 2097151 :=
  inRange_writeField below
    (fun _ hr hs => by
      obtain ⟨low, high, -⟩ := sext22_range hr hs
      exact ⟨low, high⟩)
    (by decide) (by decide)

/-- All ones is the sentinel, so an available current is never -1. -/
theorem bmCurrent_ne_neg_one {raw : Option Nat} (below : Below 4194304 raw) :
    (writeField (some bmCurrentSentinel) (sext 22) raw).v = true →
      (writeField (some bmCurrentSentinel) (sext 22) raw).val.toInt ≠ -1 :=
  toInt_ne_of_available below fun r hr hs => by
    obtain ⟨low, high, ne⟩ := sext22_range hr hs
    exact ⟨by omega, by omega, ne⟩

theorem inRange_mono {f : FieldReg} {lo hi lo' hi' : Int} (h : InRange f lo hi) (hlo : lo' ≤ lo) (hhi : hi ≤ hi') :
    InRange f lo' hi' := fun available => ⟨hlo.trans (h available).1, (h available).2.trans hhi⟩

theorem inRange_of_unavailable {f : FieldReg} {lo hi : Int} (h : f.v = false) : InRange f lo hi := by
  intro available
  simp [h] at available

/-- The aux value has the union of the ranges of its three types (43_record_decoders.md R206). -/
theorem inRange_writeAux {aux type : Option Nat} (below : Below 65536 aux) : InRange (writeAux aux type) (-32768) 65534 := by
  rcases writeAux_cases aux type with ⟨unavailable, -⟩ | e | e | e
  · exact inRange_of_unavailable unavailable
  · exact e ▸ inRange_mono (inRange_signed16 below) (by decide) (by decide)
  · exact e ▸ inRange_mono (inRange_unsigned_sentinel below (hi := 65534) (by decide) (by decide)) (by decide) (by decide)
  · rw [e]
    refine inRange_writeField below (fun r hr _ => ?_) (by decide) (by decide)
    unfold kelvinOffset
    omega

/-- The derived power: `pv_power` in units of 0.001 W, or the product of voltage and current (43_record_decoders.md R216). -/
theorem inRange_derivedPower {volt cur pv : FieldReg} (hv : InRange volt (-32768) 32766) (hc : InRange cur (-32768) 32766)
    (hp : InRange pv 0 65534) : InRange (derivedPower volt cur pv).1 (-(2 ^ 30)) (2 ^ 30) := by
  rcases derivedPower_cases volt cur pv with ⟨vp, e⟩ | ⟨vv, vc, e⟩ | e <;> rw [e]
  · obtain ⟨low, high⟩ := hp vp
    intro _
    rw [toInt_toReg32 (by omega) (by omega)]
    omega
  · have product : (volt.val.toInt * cur.val.toInt).natAbs ≤ 32768 * 32768 := by
      obtain ⟨vlow, vhigh⟩ := hv vv
      obtain ⟨clow, chigh⟩ := hc vc
      rw [Int.natAbs_mul]
      exact Nat.mul_le_mul (by omega) (by omega)
    intro _
    rw [toInt_toReg32 (by omega) (by omega)]
    omega
  · exact inRange_of_unavailable rfl

/-- The source of the derived power is 0, 1 or 2. -/
theorem inRange_derivedPower_source (volt cur pv : FieldReg) : InRange (derivedPower volt cur pv).2 0 2 := by
  rcases derivedPower_cases volt cur pv with ⟨-, e⟩ | ⟨-, -, e⟩ | e <;> rw [e]
  · exact fun _ => (by decide : 0 ≤ (1 : BitVec 32).toInt ∧ (1 : BitVec 32).toInt ≤ 2)
  · exact fun _ => (by decide : 0 ≤ (2 : BitVec 32).toInt ∧ (2 : BitVec 32).toInt ≤ 2)
  · exact fun _ => (by decide : 0 ≤ (0 : BitVec 32).toInt ∧ (0 : BitVec 32).toInt ≤ 2)

/-- `pv_power`, with its pattern `0xFFFF` read as 0 (43_record_decoders.md R215). -/
theorem inRange_pv {raw : Option Nat} (below : Below 65536 raw) :
    InRange (writeField none (fun r => if r = solarPvSentinel then 0 else (r : Int)) raw) 0 65534 := by
  refine inRange_writeField below (fun r hr _ => ?_) (by decide) (by decide)
  unfold solarPvSentinel
  split <;> omega

/-- The two bank orders permute wire positions, not widths: AC register `k` has the width it has when grouped
(43_record_decoders.md R220). -/
theorem acWidths_acPosition (order : BankOrder) (k : Nat) :
    (acWidths order).getD (acPosition order k) 0 = (acWidths .grouped).getD k 0 := by
  cases order with
  | grouped => rfl
  | interleaved =>
    match k with
    | 0 | 1 | 2 | 3 | 4 | 5 | 6 | 7 | 8 | 9 => rfl
    | _ + 10 => rfl

/-- Settles O43: each register by its width, sign and sentinel. -/
theorem fieldRanges : Obligations.FieldRanges := by
  intro skip order pt
  refine ⟨?_, ?_, ?_⟩
  · have wire := below_readFields pt skip bmWidths
    exact ⟨inRange_unsigned (wire 0) (by decide) (by decide), inRange_unsigned (wire 1) (by decide) (by decide),
      toInt_ne_sentinel (wire 1) (by decide), inRange_unsigned (wire 2) (by decide) (by decide), inRange_writeAux (wire 3),
      inRange_unsigned (wire 4) (by decide) (by decide), inRange_bmCurrent (wire 5), bmCurrent_ne_neg_one (wire 5),
      inRange_negated (wire 6), inRange_unsigned_sentinel (wire 7) (by decide) (by decide)⟩
  · have wire := below_readFields pt 0 solarWidths
    have volt := inRange_signed16 (wire 2)
    have cur := inRange_signed16 (wire 3)
    have pv := inRange_pv (wire 5)
    exact ⟨inRange_unsigned (wire 0) (by decide) (by decide), inRange_unsigned (wire 1) (by decide) (by decide), volt, cur,
      inRange_unsigned (wire 4) (by decide) (by decide), pv, inRange_unsigned (wire 6) (by decide) (by decide),
      inRange_derivedPower volt cur pv, inRange_derivedPower_source _ _ _⟩
  · have wire (k : Nat) : Below (2 ^ (acWidths .grouped).getD k 0)
        (rawField (readFields pt 0 (acWidths order)) (acPosition order k)) :=
      acWidths_acPosition order k ▸ below_readFields pt 0 (acWidths order) (acPosition order k)
    exact ⟨inRange_unsigned (wire 0) (by decide) (by decide), inRange_unsigned (wire 1) (by decide) (by decide),
      inRange_unsigned_sentinel (wire 2) (by decide) (by decide),
      inRange_unsigned_sentinel (wire 3) (by decide) (by decide),
      inRange_unsigned_sentinel (wire 4) (by decide) (by decide),
      inRange_unsigned_sentinel (wire 5) (by decide) (by decide),
      inRange_unsigned_sentinel (wire 6) (by decide) (by decide),
      inRange_unsigned_sentinel (wire 7) (by decide) (by decide),
      inRange_unsigned (wire 8) (by decide) (by decide), inRange_unsigned (wire 9) (by decide) (by decide)⟩

end Sys2Proof.Proofs

/-! PROOFS. The round trip of encoder and decoder (30_encoding.md R91, R93, R109): each decoder on the strings the encoder
writes, the strings each decoder accepts, and the row a frame selects. -/

namespace Sys2Proof.Proofs

open Sys2Proof.Machine Sys2Proof.Claims

/-! ### The decoders on the strings that the encoder writes -/

theorem decodeString_counted (mk : Bytes → Instr) {b : Bytes} (len : b.length ≤ 31) :
    decodeString mk (counted b) = .ok (mk b) := by
  simp [decodeString, takeCounted_counted b (by omega), len]

theorem decodeKeyload_encoded (mac : Mac) {kbytes : Bytes} (len : kbytes.length ≤ 255) :
    decodeKeyload (mac.toBytes ++ counted kbytes) = .ok (.keyload mac kbytes) := by
  simp [decodeKeyload, Mac.toBytes, takeCounted_counted kbytes len]

theorem decodeCtrcrypt_encoded {kbytes data : Bytes} (counter : BitVec 16) (klen : kbytes.length ≤ 255)
    (dlen : data.length ≤ 31) :
    decodeCtrcrypt (counted kbytes ++ (bytes16 counter ++ counted data)) = .ok (.ctrcrypt kbytes counter data) := by
  have key : takeCounted (counted kbytes ++ (bytes16 counter ++ counted data)) =
      some (kbytes, bytes16 counter ++ counted data) := takeCounted_append kbytes _ klen
  simp only [decodeCtrcrypt, key]
  simp [bytes16, le16_extract, takeCounted_counted data (by omega), dlen]

theorem decodeClassify_encoded (model : BitVec 16) (mode : Byte) :
    decodeClassify (bytes16 model ++ [mode]) = .ok (.classify model mode) := by
  simp [decodeClassify, bytes16, le16_extract]

theorem recordKindOf_recordKindByte (kind : RecordKind) : recordKindOf (recordKindByte kind) = some kind := by
  cases kind <;> rfl

theorem decodeDecrec_encoded (kind : RecordKind) {pt : Bytes} (len : pt.length ≤ 31) :
    decodeDecrec (recordKindByte kind :: counted pt) = .ok (.decrec kind pt) := by
  simp [decodeDecrec, recordKindOf_recordKindByte, decodeString_counted _ len]

/-- A DECODE command decodes to the row of its byte string (30_encoding.md R91, R109). -/
theorem decodeCommand_encodeDecode (env : Envelope) {raw : Bytes} (len : raw.length ≤ 255) :
    decodeCommand (encodeDecode env raw) = .ok (selectRow env raw) := by
  obtain ⟨mac, valid, rssi⟩ := env
  have string := takeCounted_counted raw len
  cases valid <;> simp [encodeDecode, decodeCommand, decodeDecode, Mac.toBytes, string]

/-! ### The row of a frame -/

theorem selectRow_encodeFrame (env : Envelope) (marker : Byte) (model : BitVec 16) (mode : Byte) (c : BitVec 16) {ct : Bytes}
    (fits : 6 + ct.length ≤ 31) :
    selectRow env (encodeFrame marker model mode c ct) = selectAdv env marker model mode c ct := by
  have bound : ¬ Config.params.bufMax < (encodeFrame marker model mode c ct).length := by
    rw [length_encodeFrame, params_bufMax]; omega
  simp only [encodeFrame, bytes16, List.cons_append, List.nil_append] at bound ⊢
  simp only [selectRow, if_neg bound, le16_extract]

/-- With marker `0x10`, a mode that no specific row names selects ADV.OTHERMODE. -/
theorem selectAdv_of_not_namedMode (env : Envelope) {model : BitVec 16} {mode : Byte} (c : BitVec 16) (ct : Bytes)
    (unnamed : namedMode model mode = false) : selectAdv env 0x10 model mode c ct = .advOthermode env model mode c ct := by
  simp only [namedMode, Bool.or_eq_false_iff, Bool.and_eq_false_iff, beq_eq_false_iff_ne] at unnamed
  grind [selectAdv]

theorem selectAdv_of_marker_ne (env : Envelope) {marker : Byte} (model : BitVec 16) (mode : Byte) (c : BitVec 16) (ct : Bytes)
    (other : marker ≠ 0x10) : selectAdv env marker model mode c ct = .advOthermarker env marker model mode c ct :=
  if_pos other

/-- An instruction that a frame selects, with the encoding of the frame's DECODE command, is that command's row. -/
theorem exists_decode_of_selectAdv {i : Instr} {env : Envelope} {marker : Byte} {model : BitVec 16} {mode : Byte}
    {c : BitVec 16} {ct raw : Bytes} (frame : some (encodeFrame marker model mode c ct) = some raw)
    (fits : frameFits ct = true) (encoded : encode i = encodeDecode env (encodeFrame marker model mode c ct))
    (selected : selectAdv env marker model mode c ct = i) :
    raw.length ≤ 31 ∧ ∃ env, encode i = encodeDecode env raw ∧ selectRow env raw = i := by
  obtain rfl := Option.some.inj frame
  have fits := frameFits_iff.mp fits
  exact ⟨by rwa [length_encodeFrame], env, encoded, by rw [selectRow_encodeFrame env _ _ _ _ fits, selected]⟩

/-- A well-formed ADV instruction is the row of its frame in a DECODE command, and has that command's encoding
(30_encoding.md R109, 42_header_dispatch.md R189). -/
theorem exists_decode_of_frame {i : Instr} {raw : Bytes} (frame : i.frame = some raw) (wf : i.wf = true) :
    raw.length ≤ 31 ∧ ∃ env, encode i = encodeDecode env raw ∧ selectRow env raw = i := by
  cases i
  case reset | keyload | decode | ctrcrypt | bropen | brcan | brreadu | brreads | parsehdr | classify | decrec =>
    cases frame
  case advOthermode env model mode c ct =>
    obtain ⟨fits, unnamed⟩ := Bool.and_eq_true_iff.mp wf
    exact exists_decode_of_selectAdv frame fits rfl
      (selectAdv_of_not_namedMode env c ct (by simpa using unnamed))
  case advOthermarker env marker model mode c ct =>
    obtain ⟨fits, other⟩ := Bool.and_eq_true_iff.mp wf
    exact exists_decode_of_selectAdv frame fits rfl
      (selectAdv_of_marker_ne env model mode c ct (by simpa using other))
  all_goals exact exists_decode_of_selectAdv frame wf rfl rfl

theorem canonical_of_frame {i : Instr} {raw : Bytes} (frame : i.frame = some raw) : canonical i = i := by
  cases i
  case decode => cases frame
  all_goals rfl

/-- A command that is no ADV row decodes to its canonical form. -/
theorem decodeCommand_encode_of_command {i : Instr} (command : i.frame = none) (wf : i.wf = true) :
    decodeCommand (encode i) = .ok (canonical i) := by
  cases i
  case keyload mac kbytes => exact decodeKeyload_encoded mac (fitsLengthByte_iff.mp wf)
  case decode env raw => exact decodeCommand_encodeDecode env (fitsLengthByte_iff.mp wf)
  case ctrcrypt kbytes c data =>
    obtain ⟨klen, dlen⟩ := Bool.and_eq_true_iff.mp wf
    exact decodeCtrcrypt_encoded c (fitsLengthByte_iff.mp klen) (fitsBuffer_iff.mp dlen)
  case bropen bytes => exact decodeString_counted .bropen (fitsBuffer_iff.mp wf)
  case parsehdr raw => exact decodeString_counted .parsehdr (fitsBuffer_iff.mp wf)
  case classify model mode => exact decodeClassify_encoded model mode
  case decrec kind pt => exact decodeDecrec_encoded kind (fitsBuffer_iff.mp wf)
  case reset | brcan | brreadu | brreads => rfl
  all_goals cases command

/-- Settles O1: a command by its own decoder, an ADV row through the DECODE command that carries its frame. -/
theorem decodeOfEncodeIsCanonical : Obligations.DecodeOfEncodeIsCanonical := by
  intro i wf
  cases frame : i.frame with
  | none => exact decodeCommand_encode_of_command frame wf
  | some raw =>
    obtain ⟨len, env, encoded, selected⟩ := exists_decode_of_frame frame wf
    rw [encoded, decodeCommand_encodeDecode env (by omega), selected, canonical_of_frame frame]

/-! ### The strings that the decoders accept -/

theorem eq_counted_of_takeCounted {bs b : Bytes} (h : takeCounted bs = some (b, [])) : bs = counted b := by
  simpa [counted] using (takeCounted_eq_some h).1

theorem string_of_decodeString {mk : Bytes → Instr} {bs : Bytes} {i : Instr} (h : decodeString mk bs = .ok i) :
    ∃ b, bs = counted b ∧ i = mk b := by
  unfold decodeString at h
  split at h
  · rename_i b taken
    split at h
    · cases h; exact ⟨b, eq_counted_of_takeCounted taken, rfl⟩
    · cases h
  · cases h

theorem string_of_decodeByte {mk : Byte → Instr} {bs : Bytes} {i : Instr} (h : decodeByte mk bs = .ok i) :
    ∃ n, bs = [n] ∧ i = mk n := by
  unfold decodeByte at h
  split at h
  · cases h; exact ⟨_, rfl, rfl⟩
  · cases h

theorem string_of_decodeKeyload {bs : Bytes} {i : Instr} (h : decodeKeyload bs = .ok i) :
    ∃ mac kbytes, bs = Mac.toBytes mac ++ counted kbytes ∧ i = .keyload mac kbytes := by
  unfold decodeKeyload at h
  split at h
  · rename_i b0 b1 b2 b3 b4 b5 rest
    split at h
    · rename_i kbytes taken
      cases h
      exact ⟨⟨b0, b1, b2, b3, b4, b5⟩, kbytes, by rw [eq_counted_of_takeCounted taken]; rfl, rfl⟩
    · cases h
  · cases h

/-- Flags without a reserved bit are their bit 0 (30_encoding.md R91). -/
theorem flags_eq_of_reserved_zero {flags : Byte} (h : flags &&& 0xFE = 0) :
    (if flags.getLsbD 0 then 0x01 else 0x00) = flags := by
  revert flags
  decide

theorem string_of_decodeDecode {bs : Bytes} {i : Instr} (h : decodeDecode bs = .ok i) :
    ∃ env raw, 0x02 :: bs = encodeDecode env raw ∧ i = selectRow env raw := by
  unfold decodeDecode at h
  split at h
  · rename_i b0 b1 b2 b3 b4 b5 flags rssi rest
    split at h
    · rename_i raw taken
      split at h
      · cases h
      · rename_i reserved
        cases h
        refine ⟨⟨⟨b0, b1, b2, b3, b4, b5⟩, flags.getLsbD 0, rssi⟩, raw, ?_, rfl⟩
        rw [encodeDecode, flags_eq_of_reserved_zero (not_not.mp reserved), eq_counted_of_takeCounted taken]
        rfl
    · cases h
  · cases h

theorem string_of_decodeCtrcrypt {bs : Bytes} {i : Instr} (h : decodeCtrcrypt bs = .ok i) :
    ∃ kbytes counter data, bs = counted kbytes ++ (bytes16 counter ++ counted data) ∧ i = .ctrcrypt kbytes counter data := by
  unfold decodeCtrcrypt at h
  split at h
  · rename_i kbytes lo hi rest key
    split at h
    · rename_i data taken
      split at h
      · cases h
        refine ⟨kbytes, le16 lo hi, data, ?_, rfl⟩
        rw [(takeCounted_eq_some key).1, eq_counted_of_takeCounted taken, bytes16_le16]
        rfl
      · cases h
    · cases h
  · cases h

theorem string_of_decodeClassify {bs : Bytes} {i : Instr} (h : decodeClassify bs = .ok i) :
    ∃ model mode, bs = bytes16 model ++ [mode] ∧ i = .classify model mode := by
  unfold decodeClassify at h
  split at h
  · rename_i lo hi mode
    cases h
    exact ⟨le16 lo hi, mode, by rw [bytes16_le16]; rfl, rfl⟩
  · cases h

theorem recordKindByte_of_recordKindOf {b : Byte} {kind : RecordKind} (h : recordKindOf b = some kind) :
    recordKindByte kind = b := by
  unfold recordKindOf at h
  split at h
  next e => cases h; exact e.symm
  split at h
  next e => cases h; exact e.symm
  split at h
  next e => cases h; exact e.symm
  cases h

theorem string_of_decodeDecrec {bs : Bytes} {i : Instr} (h : decodeDecrec bs = .ok i) :
    ∃ kind pt, bs = recordKindByte kind :: counted pt ∧ i = .decrec kind pt := by
  unfold decodeDecrec at h
  split at h
  · split at h
    · rename_i kind known
      obtain ⟨pt, rfl, rfl⟩ := string_of_decodeString h
      exact ⟨kind, pt, by rw [recordKindByte_of_recordKindOf known], rfl⟩
    · cases h
  · cases h

/-- A byte string of 6 bytes or more is a frame's (30_encoding.md R93). -/
theorem exists_encodeFrame {raw : Bytes} (h : 6 ≤ raw.length) :
    ∃ marker model mode c ct, raw = encodeFrame marker model mode c ct := by
  obtain ⟨marker, m0, m1, mode, c0, c1, ct, rfl⟩ := exists_header h
  exact ⟨marker, le16 m0 m1, mode, le16 c0 c1, ct, by simp [encodeFrame, bytes16_le16]⟩

/-- A byte string that is no frame keeps the name DECODE (log entry 3). -/
theorem selectRow_of_no_frame (env : Envelope) {raw : Bytes} (h : raw.length < 6 ∨ 31 < raw.length) :
    selectRow env raw = .decode env raw := by
  unfold selectRow
  split
  · rcases h with short | long
    · simp at short; omega
    · exact if_pos long
  · rfl

/-- The row of a DECODE command: DECODE itself, or the row its frame selects. -/
theorem selectRow_cases (env : Envelope) (raw : Bytes) :
    selectRow env raw = .decode env raw ∨
    ∃ marker model mode c ct, raw = encodeFrame marker model mode c ct ∧ 6 + ct.length ≤ 31 ∧
      selectRow env raw = selectAdv env marker model mode c ct := by
  by_cases h : raw.length < 6 ∨ 31 < raw.length
  · exact .inl (selectRow_of_no_frame env h)
  · obtain ⟨long, short⟩ : 6 ≤ raw.length ∧ raw.length ≤ 31 := by omega
    obtain ⟨marker, model, mode, c, ct, rfl⟩ := exists_encodeFrame long
    rw [length_encodeFrame] at short
    exact .inr ⟨marker, model, mode, c, ct, rfl, short, selectRow_encodeFrame env marker model mode c short⟩

/-- Whatever row a frame selects, its encoding is the DECODE command of the frame, and it is its own canonical form. -/
theorem encode_canonical_selectAdv (env : Envelope) (marker : Byte) (model : BitVec 16) (mode : Byte) (c : BitVec 16)
    (ct : Bytes) :
    encode (selectAdv env marker model mode c ct) = encodeDecode env (encodeFrame marker model mode c ct) ∧
      canonical (selectAdv env marker model mode c ct) = selectAdv env marker model mode c ct := by
  rcases selectAdv_cases env marker model mode c ct with ⟨-, e⟩ | ⟨rfl, ⟨rfl, e⟩ | ⟨rfl, e⟩ | ⟨rfl, e⟩ | ⟨rfl, e⟩ |
    ⟨rfl, rfl, e⟩ | ⟨rfl, rfl, e⟩ | ⟨rfl, rfl, e⟩ | ⟨rfl, rfl, e⟩ | ⟨rfl, rfl, e⟩ | ⟨rfl, rfl, e⟩ | ⟨-, e⟩⟩ <;>
    exact e ▸ ⟨rfl, rfl⟩

/-- The row of a DECODE command has the command's encoding and is its own canonical form. -/
theorem encode_canonical_selectRow (env : Envelope) (raw : Bytes) :
    encode (selectRow env raw) = encodeDecode env raw ∧ canonical (selectRow env raw) = selectRow env raw := by
  rcases selectRow_cases env raw with e | ⟨marker, model, mode, c, ct, rfl, -, e⟩
  · rw [e]; exact ⟨rfl, e⟩
  · rw [e]; exact encode_canonical_selectAdv env marker model mode c ct

/-- Settles O2: by the opcode, the string that its decoder accepts is the encoding. -/
theorem encodeOfDecodeIsCommand : Obligations.EncodeOfDecodeIsCommand := by
  intro bs i h
  suffices encode i = bs ∧ canonical i = i from ⟨this.1, wf_of_decodeCommand h, this.2⟩
  cases bs with
  | nil => cases h
  | cons op rest =>
    rcases decodeCommand_cases op rest with ⟨rfl, e⟩ | ⟨rfl, e⟩ | ⟨rfl, e⟩ | ⟨rfl, e⟩ | ⟨rfl, e⟩ | ⟨rfl, e⟩ | ⟨rfl, e⟩ |
      ⟨rfl, e⟩ | ⟨rfl, e⟩ | ⟨rfl, e⟩ | ⟨rfl, e⟩ | ⟨-, e⟩ <;> rw [e] at h
    · obtain ⟨rfl, rfl⟩ := decodeReset_eq_ok h; exact ⟨rfl, rfl⟩
    · obtain ⟨mac, kbytes, rfl, rfl⟩ := string_of_decodeKeyload h; exact ⟨rfl, rfl⟩
    · obtain ⟨env, raw, string, rfl⟩ := string_of_decodeDecode h; exact string ▸ encode_canonical_selectRow env raw
    · obtain ⟨kbytes, c, data, rfl, rfl⟩ := string_of_decodeCtrcrypt h; exact ⟨rfl, rfl⟩
    · obtain ⟨bytes, rfl, rfl⟩ := string_of_decodeString h; exact ⟨rfl, rfl⟩
    · obtain ⟨n, rfl, rfl⟩ := string_of_decodeByte h; exact ⟨rfl, rfl⟩
    · obtain ⟨n, rfl, rfl⟩ := string_of_decodeByte h; exact ⟨rfl, rfl⟩
    · obtain ⟨n, rfl, rfl⟩ := string_of_decodeByte h; exact ⟨rfl, rfl⟩
    · obtain ⟨raw, rfl, rfl⟩ := string_of_decodeString h; exact ⟨rfl, rfl⟩
    · obtain ⟨model, mode, rfl, rfl⟩ := string_of_decodeClassify h; exact ⟨rfl, rfl⟩
    · obtain ⟨kind, pt, rfl, rfl⟩ := string_of_decodeDecrec h; exact ⟨rfl, rfl⟩
    · cases h

end Sys2Proof.Proofs

/-! PROOFS. The malformed commands (30_encoding.md R92): a string of which no clause holds is the encoding of a well-formed
command, and of such an encoding no clause holds. With the round trip that says what the decoder rejects. -/

namespace Sys2Proof.Proofs

open Sys2Proof.Machine Sys2Proof.Claims

/-! ### Malformed commands (30_encoding.md R92) -/

theorem toNat_lengthByte {b : Bytes} (len : b.length ≤ 255) : (lengthByte b).toNat = b.length := by
  simp [lengthByte]; omega

/-- `dlen` of a CTRCRYPT command stands after the key and the counter (30_encoding.md R91). -/
theorem byteNat_dlen (op klen lo hi dlen : Byte) (kbytes data : Bytes) :
    byteNat (op :: klen :: (kbytes ++ lo :: hi :: dlen :: data)) (4 + kbytes.length) = dlen.toNat := by
  rw [show 4 + kbytes.length = kbytes.length + 2 + 1 + 1 by omega]
  simp [byteNat]

theorem not_malformed_encodeDecode (env : Envelope) {raw : Bytes} (len : raw.length ≤ 255) :
    ¬ Malformed (encodeDecode env raw) := by
  obtain ⟨mac, valid, rssi⟩ := env
  cases valid <;> simp [Malformed, encodeDecode, Mac.toBytes, counted, byteNat, impliedTotal, toNat_lengthByte len] <;> omega

theorem not_malformed_ctrcrypt {kbytes data : Bytes} (c : BitVec 16) (klen : kbytes.length ≤ 255) (dlen : data.length ≤ 31) :
    ¬ Malformed (encode (.ctrcrypt kbytes c data)) := by
  set bs := encode (.ctrcrypt kbytes c data) with hbs
  have opcode : byteNat bs 0 = 3 := rfl
  have key : byteNat bs 1 = kbytes.length := toNat_lengthByte klen
  have string : byteNat bs (4 + kbytes.length) = data.length :=
    (byteNat_dlen ..).trans (toNat_lengthByte (by omega))
  have total : impliedTotal bs = 5 + byteNat bs 1 + byteNat bs (4 + byteNat bs 1) := rfl
  have length : bs.length = 5 + kbytes.length + data.length := by simp [hbs, encode, counted, bytes16]; omega
  rw [key, string] at total
  have nonempty : bs ≠ [] := List.cons_ne_nil _ _
  simp only [Malformed, nonempty, opcode, total, key, string, length, false_or]
  omega

/-- A well-formed command is not malformed. -/
theorem not_malformed_encode {i : Instr} (wf : i.wf = true) : ¬ Malformed (encode i) := by
  cases frame : i.frame with
  | some raw =>
    obtain ⟨len, env, encoded, -⟩ := exists_decode_of_frame frame wf
    rw [encoded]
    exact not_malformed_encodeDecode env (by omega)
  | none =>
    cases i
    case decode env raw => exact not_malformed_encodeDecode env (fitsLengthByte_iff.mp wf)
    case keyload mac kbytes =>
      have len := fitsLengthByte_iff.mp wf
      simp [Malformed, encode, Mac.toBytes, counted, byteNat, impliedTotal, toNat_lengthByte len]
      omega
    case ctrcrypt kbytes c data =>
      obtain ⟨klen, dlen⟩ := Bool.and_eq_true_iff.mp wf
      exact not_malformed_ctrcrypt c (fitsLengthByte_iff.mp klen) (fitsBuffer_iff.mp dlen)
    case bropen b | parsehdr b =>
      have len := fitsBuffer_iff.mp wf
      simp [Malformed, encode, counted, byteNat, impliedTotal, toNat_lengthByte (b := b) (by omega)]
      omega
    case decrec kind b =>
      have len := fitsBuffer_iff.mp wf
      cases kind <;>
      simp [Malformed, encode, recordKindByte, counted, byteNat, impliedTotal, toNat_lengthByte (b := b) (by omega)] <;>
      omega
    case reset | brcan | brreadu | brreads | classify => simp [Malformed, encode, bytes16, byteNat, impliedTotal]
    all_goals cases frame

theorem eq_counted {n : Byte} {b : Bytes} (h : b.length = n.toNat) : n :: b = counted b := by
  simp [counted, lengthByte, h]

/-- What a command string meets when no clause of R92 holds of it, clause by clause. -/
structure Accepted (bs : Bytes) : Prop where
  length : bs.length = impliedTotal bs
  flags : byteNat bs 0 = 0x02 → byteNat bs 7 / 2 = 0
  kind : byteNat bs 0 = 0x0A → byteNat bs 1 ≠ 0 ∧ byteNat bs 1 ≤ 3
  dlen : byteNat bs 0 = 0x03 → byteNat bs (4 + byteNat bs 1) ≤ 31
  blen : byteNat bs 0 = 0x04 ∨ byteNat bs 0 = 0x08 → byteNat bs 1 ≤ 31
  plen : byteNat bs 0 = 0x0A → byteNat bs 2 ≤ 31

theorem accepted_of_not_malformed {bs : Bytes} (h : ¬ Malformed bs) : Accepted bs := by
  simp only [Malformed, not_or, not_and, not_lt, not_not] at h
  obtain ⟨-, -, length, flags, kind, dlen, blen, plen⟩ := h
  exact ⟨length, flags, kind, dlen, blen, plen⟩

/-- A byte string that has `n` bytes splits after them. -/
theorem exists_split {bs : Bytes} {n : Nat} (h : n ≤ bs.length) : ∃ b rest, bs = b ++ rest ∧ b.length = n :=
  ⟨bs.take n, bs.drop n, (List.take_append_drop n bs).symm, List.length_take_of_le h⟩

/-- A string of one byte operand, after its opcode. -/
theorem exists_byte {op : Byte} {rest : Bytes} (h : Accepted (op :: rest)) (total : impliedTotal (op :: rest) = 2) :
    ∃ n, rest = [n] := List.length_eq_one_iff.mp (Nat.succ_injective (h.length.trans total))

/-- A string of one counted operand, after its opcode. -/
theorem exists_counted {op : Byte} {rest : Bytes} (length : rest.length + 1 = 2 + byteNat (op :: rest) 1)
    (short : byteNat (op :: rest) 1 ≤ 31) : ∃ b : Bytes, fitsBuffer b = true ∧ rest = counted b := by
  cases rest with
  | nil => simp at length; omega
  | cons n b =>
    have key : byteNat (op :: n :: b) 1 = n.toNat := rfl
    have count : b.length = n.toNat := by simp [key] at length; omega
    exact ⟨b, fitsBuffer_iff.mpr (by omega), eq_counted count⟩

/-! An accepted string is the encoding of a well-formed command, opcode by opcode. -/

theorem exists_keyload {rest : Bytes} (h : Accepted (0x01 :: rest)) :
    ∃ i : Instr, i.wf = true ∧ encode i = 0x01 :: rest := by
  have length : rest.length + 1 = 8 + byteNat (0x01 :: rest) 7 := h.length
  obtain ⟨b0, b1, b2, b3, b4, b5, tail, rfl⟩ := exists_header (raw := rest) (by omega)
  cases tail with
  | nil => simp at length; omega
  | cons n kbytes =>
    have count : kbytes.length = n.toNat := by simp [byteNat] at length; omega
    rw [eq_counted count]
    exact ⟨.keyload ⟨b0, b1, b2, b3, b4, b5⟩ kbytes, fitsLengthByte_iff.mpr (by omega), rfl⟩

/-- Flags of which R92 leaves bit 0 only have none of the bits that the decoder tests. -/
theorem reserved_zero_of_div {flags : Byte} (h : flags.toNat / 2 = 0) : flags &&& 0xFE = 0 := by
  revert flags
  decide

theorem exists_decode {rest : Bytes} (h : Accepted (0x02 :: rest)) :
    ∃ i : Instr, i.wf = true ∧ encode i = 0x02 :: rest := by
  have length : rest.length + 1 = 10 + byteNat (0x02 :: rest) 9 := h.length
  have reserved := h.flags rfl
  obtain ⟨b0, b1, b2, b3, b4, b5, tail, rfl⟩ := exists_header (raw := rest) (by omega)
  match tail with
  | [] | [_] | [_, _] => simp at length; omega
  | flags :: rssi :: n :: raw =>
    have count : raw.length = n.toNat := by simp [byteNat] at length; omega
    have bit := flags_eq_of_reserved_zero (flags := flags) (reserved_zero_of_div reserved)
    refine ⟨.decode ⟨⟨b0, b1, b2, b3, b4, b5⟩, flags.getLsbD 0, rssi⟩ raw, fitsLengthByte_iff.mpr (by omega), ?_⟩
    simp only [encode, encodeDecode, bit, eq_counted count]
    rfl

theorem exists_ctrcrypt {rest : Bytes} (h : Accepted (0x03 :: rest)) :
    ∃ i : Instr, i.wf = true ∧ encode i = 0x03 :: rest := by
  have length : rest.length + 1 =
    5 + byteNat (0x03 :: rest) 1 + byteNat (0x03 :: rest) (4 + byteNat (0x03 :: rest) 1) := h.length
  have short := h.dlen rfl
  cases rest with
  | nil => simp at length; omega
  | cons klen tail =>
    have key : byteNat (0x03 :: klen :: tail) 1 = klen.toNat := rfl
    rw [key] at length short
    obtain ⟨kbytes, tail, rfl, count⟩ := exists_split (bs := tail) (n := klen.toNat) (by simp at length; omega)
    match tail with
    | [] | [_] | [_, _] => simp at length; omega
    | lo :: hi :: dlen :: data =>
      rw [← count, byteNat_dlen] at length short
      have string : data.length = dlen.toNat := by simp at length; omega
      refine ⟨.ctrcrypt kbytes (le16 lo hi) data, ?_, ?_⟩
      · exact Bool.and_eq_true_iff.mpr ⟨fitsLengthByte_iff.mpr (by omega), fitsBuffer_iff.mpr (by omega)⟩
      · rw [encode, bytes16_le16, eq_counted string, ← eq_counted count]
        rfl

theorem exists_classify {rest : Bytes} (h : Accepted (0x09 :: rest)) :
    ∃ i : Instr, i.wf = true ∧ encode i = 0x09 :: rest := by
  obtain ⟨lo, hi, mode, rfl⟩ := List.length_eq_three.mp (Nat.succ_injective h.length)
  exact ⟨.classify (le16 lo hi) mode, rfl, by rw [encode, bytes16_le16]; rfl⟩

/-- The kinds that DECREC's operand can name are 1 to 3 (10_state.md R34). -/
theorem exists_recordKindByte {b : Byte} (pos : b.toNat ≠ 0) (le : b.toNat ≤ 3) : ∃ kind, recordKindByte kind = b := by
  have : b = 1 ∨ b = 2 ∨ b = 3 := by bv_omega
  rcases this with rfl | rfl | rfl
  · exact ⟨.batteryMonitor, rfl⟩
  · exact ⟨.solarCharger, rfl⟩
  · exact ⟨.acCharger, rfl⟩

theorem exists_decrec {rest : Bytes} (h : Accepted (0x0A :: rest)) :
    ∃ i : Instr, i.wf = true ∧ encode i = 0x0A :: rest := by
  have length : rest.length + 1 = 3 + byteNat (0x0A :: rest) 2 := h.length
  obtain ⟨pos, le⟩ := h.kind rfl
  have short := h.plen rfl
  cases rest with
  | nil => simp at length; omega
  | cons k tail =>
    obtain ⟨kind, rfl⟩ := exists_recordKindByte (b := k) pos le
    have counted : tail.length + 1 = 2 + byteNat (0x0A :: recordKindByte kind :: tail) 2 := by
      rw [List.length_cons] at length; omega
    obtain ⟨pt, fits, rfl⟩ := exists_counted (op := recordKindByte kind) counted short
    exact ⟨.decrec kind pt, fits, rfl⟩

/-- A string of which no clause of R92 holds is the encoding of a well-formed command. -/
theorem exists_encode_of_not_malformed {bs : Bytes} (h : ¬ Malformed bs) : ∃ i : Instr, i.wf = true ∧ encode i = bs := by
  cases bs with
  | nil => exact absurd (.inl rfl) h
  | cons op rest =>
    have accepted := accepted_of_not_malformed h
    rcases decodeCommand_cases op rest with ⟨rfl, -⟩ | ⟨rfl, -⟩ | ⟨rfl, -⟩ | ⟨rfl, -⟩ | ⟨rfl, -⟩ | ⟨rfl, -⟩ | ⟨rfl, -⟩ |
      ⟨rfl, -⟩ | ⟨rfl, -⟩ | ⟨rfl, -⟩ | ⟨rfl, -⟩ | ⟨unknown, -⟩
    · obtain rfl := List.length_eq_zero_iff.mp (Nat.succ_injective accepted.length); exact ⟨.reset, rfl, rfl⟩
    · exact exists_keyload accepted
    · exact exists_decode accepted
    · exact exists_ctrcrypt accepted
    · obtain ⟨b, fits, rfl⟩ := exists_counted accepted.length (accepted.blen (.inl rfl)); exact ⟨.bropen b, fits, rfl⟩
    · obtain ⟨n, rfl⟩ := exists_byte accepted rfl; exact ⟨.brcan n, rfl, rfl⟩
    · obtain ⟨n, rfl⟩ := exists_byte accepted rfl; exact ⟨.brreadu n, rfl, rfl⟩
    · obtain ⟨n, rfl⟩ := exists_byte accepted rfl; exact ⟨.brreads n, rfl, rfl⟩
    · obtain ⟨b, fits, rfl⟩ := exists_counted accepted.length (accepted.blen (.inr rfl)); exact ⟨.parsehdr b, fits, rfl⟩
    · exact exists_classify accepted
    · exact exists_decrec accepted
    · exact absurd (.inr (.inl unknown)) h

/-- Settles O3: the strings that decode are the encodings of well-formed commands (O1 and O2), and no clause of R92 holds of
exactly those. -/
theorem decoderRejectsExactlyMalformed : Obligations.DecoderRejectsExactlyMalformed := by
  intro bs
  constructor
  · rintro ⟨e, rejected⟩
    by_contra h
    obtain ⟨i, wf, rfl⟩ := exists_encode_of_not_malformed h
    rw [decodeOfEncodeIsCanonical i wf] at rejected
    cases rejected
  · intro malformed
    cases decoded : decodeCommand bs with
    | error e => exact ⟨e, rfl⟩
    | ok i =>
      obtain ⟨rfl, wf, -⟩ := encodeOfDecodeIsCommand bs i decoded
      exact absurd malformed (not_malformed_encode wf)

/-- Settles O8: the step answers what the decoder rejects, on cleared result registers. -/
theorem malformedAnswersBadCommand : Obligations.MalformedAnswersBadCommand := by
  intro s cmd rest hf port malformed
  obtain ⟨e, rejected⟩ := (decoderRejectsExactlyMalformed cmd).mpr malformed
  have run : step s = execMalformed { s with port := rest } := by simp only [step, State.fetch, port, rejected]
  rw [run, execMalformed, State.accept_of_usable (s := { s with port := rest }) hf, State.raise_of_not_sticky _ rfl]
  rfl

end Sys2Proof.Proofs

/-! PROOFS. Frames (30_encoding.md R93, R109, 42_header_dispatch.md R180, R189): match and mask of the ADV rows, what a
DECODE of a frame does under either of its names, and what each row does. -/

namespace Sys2Proof.Proofs

open Sys2Proof.Machine Sys2Proof.Claims

/-! ### Match and mask of the ADV rows (30_encoding.md R109) -/

/-- A 16-bit field by its two bytes in wire order. -/
theorem eq_le16_iff {v : BitVec 16} {lo hi : Byte} : v = le16 lo hi ↔ v.extractLsb' 0 8 = lo ∧ v.extractLsb' 8 8 = hi := by
  constructor
  · rintro rfl
    simpa [bytes16] using bytes16_le16 lo hi
  · rintro ⟨rfl, rfl⟩
    exact (le16_extract v).symm

/-- The 16-bit number of a field's two bytes is the field. -/
theorem ofNat_bytes (v : BitVec 16) :
    BitVec.ofNat 16 ((v.extractLsb' 0 8).toNat + 256 * (v.extractLsb' 8 8).toNat) = v := by
  rw [← le16_toNat, le16_extract, BitVec.ofNat_toNat, BitVec.setWidth_eq]

/-- A mask byte `0xFF` keeps the byte. -/
theorem and_ones (b : Byte) : b &&& 255#8 = b := BitVec.and_allOnes

section Frames

variable (env : Envelope) (marker : Byte) (model : BitVec 16) (mode : Byte) (c : BitVec 16) (ct : Bytes)

/-- The header fields read from a frame's bytes are the fields it was made of (30_encoding.md R93). -/
theorem modelOf_encodeFrame : modelOf (encodeFrame marker model mode c ct) = model := ofNat_bytes model

theorem modeOf_encodeFrame : modeOf (encodeFrame marker model mode c ct) = mode := rfl

theorem counterOf_encodeFrame : counterOf (encodeFrame marker model mode c ct) = c := ofNat_bytes c

theorem drop_encodeFrame : (encodeFrame marker model mode c ct).drop 6 = ct := rfl

/-- Match and mask of a row that fixes the marker and the mode. -/
theorem matchesPattern_mode (k d : Byte) :
    matchesPattern ([k, 0, 0, d, 0, 0], [0xFF, 0, 0, 0xFF, 0, 0]) (encodeFrame marker model mode c ct) = true ↔
      marker = k ∧ mode = d := by
  simp [matchesPattern, encodeFrame, bytes16, and_ones]

/-- Match and mask of a row that fixes the marker, the model and the mode. -/
theorem matchesPattern_model (k lo hi d : Byte) :
    matchesPattern ([k, lo, hi, d, 0, 0], [0xFF, 0xFF, 0xFF, 0xFF, 0, 0]) (encodeFrame marker model mode c ct) = true ↔
      marker = k ∧ model = le16 lo hi ∧ mode = d := by
  simp [matchesPattern, encodeFrame, bytes16, and_ones, eq_le16_iff, and_assoc]

/-- A frame satisfies match and mask of the row it selects. -/
theorem matchesPattern_selectAdv :
    matchesPattern (rowPattern (selectAdv env marker model mode c ct)) (encodeFrame marker model mode c ct) = true := by
  rcases selectAdv_cases env marker model mode c ct with ⟨-, e⟩ | ⟨rfl, ⟨rfl, e⟩ | ⟨rfl, e⟩ | ⟨rfl, e⟩ | ⟨rfl, e⟩ |
    ⟨rfl, rfl, e⟩ | ⟨rfl, rfl, e⟩ | ⟨rfl, rfl, e⟩ | ⟨rfl, rfl, e⟩ | ⟨rfl, rfl, e⟩ | ⟨rfl, rfl, e⟩ | ⟨-, e⟩⟩ <;>
    rw [e] <;> simp [rowPattern, matchesPattern, encodeFrame, bytes16]

/-- A frame whose match and mask are those of a specific row selects that row. -/
theorem rowPattern_selectAdv_of_matches {p : Bytes × Bytes} (specific : p ∈ specificRows)
    (h : matchesPattern p (encodeFrame marker model mode c ct) = true) :
    rowPattern (selectAdv env marker model mode c ct) = p := by
  simp only [specificRows, List.mem_cons, List.not_mem_nil, or_false] at specific
  rcases specific with rfl | rfl | rfl | rfl | rfl | rfl | rfl | rfl | rfl | rfl
  iterate 4
    obtain ⟨rfl, rfl⟩ := (matchesPattern_mode ..).mp h
    rfl
  all_goals
    obtain ⟨rfl, rfl, rfl⟩ := (matchesPattern_model ..).mp h
    rfl

/-- With marker `0x10` a frame selects a specific row or ADV.OTHERMODE. -/
theorem selectAdv_specific_or_othermode :
    rowPattern (selectAdv env 0x10 model mode c ct) ∈ specificRows ∨
      selectAdv env 0x10 model mode c ct = .advOthermode env model mode c ct := by
  rcases selectAdv_cases env 0x10 model mode c ct with ⟨other, -⟩ | ⟨-, ⟨-, e⟩ | ⟨-, e⟩ | ⟨-, e⟩ | ⟨-, e⟩ |
    ⟨-, -, e⟩ | ⟨-, -, e⟩ | ⟨-, -, e⟩ | ⟨-, -, e⟩ | ⟨-, -, e⟩ | ⟨-, -, e⟩ | ⟨-, e⟩⟩
  · exact absurd rfl other
  iterate 10
    left
    rw [e]
    simp [rowPattern, specificRows]
  exact .inr e

end Frames

/-- Settles O4: the frame's fields decide match and mask of every row, and the row it selects. -/
theorem frameSelectsItsTableRow : Obligations.FrameSelectsItsTableRow := by
  intro env raw long short
  obtain ⟨marker, model, mode, c, ct, rfl⟩ := exists_encodeFrame long
  rw [length_encodeFrame] at short
  rw [selectRow_encodeFrame env _ _ _ _ short, modelOf_encodeFrame, modeOf_encodeFrame, counterOf_encodeFrame,
    drop_encodeFrame]
  refine ⟨matchesPattern_selectAdv .., fun p specific => rowPattern_selectAdv_of_matches _ _ _ _ _ _ specific,
     fun known unmatched => ?_, fun other => ?_⟩
  · obtain rfl : marker = 0x10 := known
    rcases selectAdv_specific_or_othermode env model mode c ct with specific | e
    · have := unmatched _ specific
      rw [matchesPattern_selectAdv] at this
      cases this
    · exact e
  · exact selectAdv_of_marker_ne env model mode c ct other

/-! ### The rows and DECODE (42_header_dispatch.md R189) -/

/-- A frame parses into its fields when its marker is `0x10` (42_header_dispatch.md R180). -/
theorem parseHeader_encodeFrame (model : BitVec 16) (mode : Byte) (c : BitVec 16) (ct : Bytes) :
    parseHeader (encodeFrame 0x10 model mode c ct) = .frame ⟨0x10, model, mode, c, ct⟩ := by
  simp [parseHeader, encodeFrame, bytes16, le16_extract]

theorem parseHeader_of_marker_ne {marker : Byte} (other : marker ≠ 0x10) (model : BitVec 16) (mode : Byte) (c : BitVec 16)
    (ct : Bytes) : parseHeader (encodeFrame marker model mode c ct) = .unsupportedRecordType := if_pos other

/-- DECODE of a frame with marker `0x10` dispatches it by its model and mode. -/
theorem exec_decode_frame (s : State) (env : Envelope) (model : BitVec 16) (mode : Byte) (c : BitVec 16) {ct : Bytes}
    (fits : 6 + ct.length ≤ 31) :
    exec (.decode env (encodeFrame 0x10 model mode c ct)) s = s.acceptFrame env (classify model mode) model mode c ct := by
  have bound : ¬ Config.params.bufMax < (encodeFrame 0x10 model mode c ct).length := by
    rw [length_encodeFrame, params_bufMax]; omega
  simp only [exec, execDecode, if_neg bound, parseHeader_encodeFrame, State.acceptFrame]

theorem exec_decode_of_marker_ne (s : State) (env : Envelope) {marker : Byte} (other : marker ≠ 0x10) (model : BitVec 16)
    (mode : Byte) (c : BitVec 16) {ct : Bytes} (fits : 6 + ct.length ≤ 31) :
    exec (.decode env (encodeFrame marker model mode c ct)) s =
      s.accept fun s => (s.beginDecode env).raise .skipRecordType := by
  have bound : ¬ Config.params.bufMax < (encodeFrame marker model mode c ct).length := by
    rw [length_encodeFrame, params_bufMax]; omega
  simp only [exec, execDecode, if_neg bound, parseHeader_of_marker_ne other]

/-- A mode that no specific row names is unsupported (42_header_dispatch.md R185). -/
theorem classify_of_not_namedMode {model : BitVec 16} {mode : Byte} (unnamed : namedMode model mode = false) :
    classify model mode = .unsupported := by
  simp only [namedMode, Bool.or_eq_false_iff, Bool.and_eq_false_iff, beq_eq_false_iff_ne] at unnamed
  grind [classify, classifyModel]

/-- With marker `0x10` the row a frame selects runs with the dispatcher's answer. -/
theorem exec_selectAdv (s : State) (env : Envelope) (model : BitVec 16) (mode : Byte) (c : BitVec 16) (ct : Bytes) :
    exec (selectAdv env 0x10 model mode c ct) s = s.acceptFrame env (classify model mode) model mode c ct := by
  rcases selectAdv_cases env 0x10 model mode c ct with ⟨other, -⟩ | ⟨-, ⟨rfl, e⟩ | ⟨rfl, e⟩ | ⟨rfl, e⟩ | ⟨rfl, e⟩ |
    ⟨rfl, rfl, e⟩ | ⟨rfl, rfl, e⟩ | ⟨rfl, rfl, e⟩ | ⟨rfl, rfl, e⟩ | ⟨rfl, rfl, e⟩ | ⟨rfl, rfl, e⟩ | ⟨unnamed, e⟩⟩
  · exact absurd rfl other
  iterate 10
    rw [e]
    rfl
  rw [e, classify_of_not_namedMode unnamed]
  rfl

/-- Settles O54: DECODE itself, a frame of another marker, or the dispatcher's row. -/
theorem advRowsRefineDecode : Obligations.AdvRowsRefineDecode := by
  intro s env raw
  rcases selectRow_cases env raw with e | ⟨marker, model, mode, c, ct, rfl, fits, e⟩
  · rw [e]
  · rw [e]
    by_cases known : marker = 0x10
    · subst known
      rw [exec_selectAdv, exec_decode_frame s env model mode c fits]
    · rw [selectAdv_of_marker_ne env model mode c ct known, exec_decode_of_marker_ne s env known model mode c fits]
      rfl

/-- Stages 5 to 8 of DECODE for a keyed device with a new counter (44_offset_search_decode.md R245 to R247). -/
theorem decryptAndDeliver_of_fresh {s : State} {mac : Mac} {i : Nat} {f : Frame} (fresh : Fresh s mac i f.counter)
    (kind : RecordKind) :
    s.decryptAndDeliver kind mac f =
      s.deliver i f.counter (search Config.params kind (s.slot i).key f.counter f.ciphertext) := by
  obtain ⟨found, keyOk, new⟩ := fresh
  have notDuplicate : isDuplicate (s.slot i) f.counter = false := by simpa [isDuplicate, imp_iff_not_or] using new
  simp [State.decryptAndDeliver, found, keyOk, notDuplicate]

/-- A frame of a supported kind, of a keyed device with a new counter, is emitted (44_offset_search_decode.md R247). -/
theorem acceptFrame_emits {s : State} (hf : s.fault = false) {env : Envelope} {i : Nat} {c : BitVec 16}
    (fresh : Fresh s env.mac i c) (kind : RecordKind) (model : BitVec 16) (mode : Byte) (ct : Bytes) :
    s.acceptFrame env (.supported kind) model mode c ct = .next (emitted s env i kind model mode c ct) := by
  rw [State.acceptFrame, State.accept_of_usable hf, dispatchFrame_supported, decryptAndDeliver_of_fresh (i := i) fresh]
  rfl

/-- A frame of an unsupported kind records its header and skips (60_exceptions.md R283). -/
theorem acceptFrame_unsupported {s : State} (hf : s.fault = false) (env : Envelope) (model : BitVec 16) (mode : Byte)
    (c : BitVec 16) (ct : Bytes) :
    s.acceptFrame env .unsupported model mode c ct =
      .next (emptied s { withHeader env 0 model mode c ct.length with rStatus := 0x03 }) := by
  rw [State.acceptFrame, State.accept_of_usable hf, State.dispatchFrame]
  dsimp only
  rw [State.raise_of_not_sticky _ rfl]
  rfl

/-- Settles O50. -/
theorem solarFramesEmit : Obligations.SolarFramesEmit := fun _ _ model _ ct _ hf fresh =>
  ⟨acceptFrame_emits hf fresh .solarCharger model 0x01 ct, acceptFrame_emits hf fresh .solarCharger 0x6002 0xA0 ct,
    acceptFrame_emits hf fresh .solarCharger 0x6002 0xA3 ct⟩

/-- Settles O51. -/
theorem batteryMonitorFramesEmit : Obligations.BatteryMonitorFramesEmit := fun _ _ model _ ct _ hf fresh =>
  ⟨acceptFrame_emits hf fresh .batteryMonitor model 0x02 ct, acceptFrame_emits hf fresh .batteryMonitor 0x8302 0xA0 ct,
    acceptFrame_emits hf fresh .batteryMonitor 0x8302 0xA3 ct⟩

/-- Settles O52. -/
theorem acChargerFramesEmit : Obligations.AcChargerFramesEmit := fun _ _ model _ ct _ hf fresh =>
  ⟨acceptFrame_emits hf fresh .acCharger model 0x08 ct, acceptFrame_emits hf fresh .acCharger 0x2E00 0xA0 ct,
    acceptFrame_emits hf fresh .acCharger 0x2E00 0xA3 ct⟩

/-- Settles O53: the two unsupported rows in the frame of their dispatch, ADV.OTHERMARKER before the header is recorded. -/
theorem unsupportedFramesSkip : Obligations.UnsupportedFramesSkip := by
  intro s env marker mode model c ct hf
  refine ⟨acceptFrame_unsupported hf env model 0x0D c ct, acceptFrame_unsupported hf env model mode c ct, ?_⟩
  rw [exec, execAdvOthermarker, State.accept_of_usable hf, State.raise_of_not_sticky _ rfl]
  rfl

/-- Settles O36: the three answers of the header parser. -/
theorem parsehdrReadsHeader : Obligations.ParsehdrReadsHeader := by
  intro s raw hf
  refine ⟨fun long known => ?_, fun short => ?_, fun long other => ?_⟩
  · obtain ⟨marker, model, mode, c, ct, rfl⟩ := exists_encodeFrame long
    obtain rfl : marker = 0x10 := known
    rw [modelOf_encodeFrame, modeOf_encodeFrame, counterOf_encodeFrame, length_encodeFrame, Nat.add_sub_cancel_left]
    simp only [exec, execParsehdr, State.accept_of_usable hf, parseHeader_encodeFrame]
    rfl
  · simp only [exec, execParsehdr, State.accept_of_usable hf, parseHeader_short short]
    exact congrArg _ (State.raise_of_not_sticky _ rfl)
  · obtain ⟨marker, model, mode, c, ct, rfl⟩ := exists_encodeFrame long
    simp only [exec, execParsehdr, State.accept_of_usable hf, parseHeader_of_marker_ne (marker := marker) other]
    exact congrArg _ (State.raise_of_not_sticky _ rfl)

/-- Settles O5: each string by its opcode's decoder. -/
theorem specWordsDecode : Obligations.SpecWordsDecode := by
  exact ⟨rfl, rfl, rfl, rfl, rfl, rfl, rfl, rfl, rfl⟩

end Sys2Proof.Proofs

/-! PROOFS. Counter blocks read as integers (41_aes_ctr.md R160, R161), and the registers of the three
records by the bit positions of their fields (30_encoding.md R95 to R97, 43_record_decoders.md). -/

namespace Sys2Proof.Proofs

open Sys2Proof.Machine Sys2Proof.Claims

/-! ### Counter blocks as integers (41_aes_ctr.md R160, R161) -/

/-- The low bytes of a number, put together again: the number modulo their range. -/
theorem leNat_leBytes (k n : Nat) : leNat (leBytes k n) = n % 256 ^ k := by
  induction k generalizing n with
  | zero => simp [leBytes, leNat, Nat.mod_one]
  | succ k ih => rw [leBytes, leNat, ih, Nat.pow_succ', Nat.mod_mul, BitVec.toNat_ofNat]

/-- The bytes of a block that holds a number little-endian. -/
theorem toBytes_blockOf (n : Nat) : (blockOf fun i => BitVec.ofNat 8 (n / 2 ^ (8 * i))).toBytes = leBytes 16 n := by
  simp [blockOf, Block.toBytes, Column.toBytes, leBytes, Nat.div_div_eq_div_mul]

/-- The bytes of a block that holds a number big-endian are the little-endian ones in reverse. -/
theorem toBytes_reverse_blockOf (n : Nat) :
    (blockOf fun i => BitVec.ofNat 8 (n / 2 ^ (8 * (15 - i)))).toBytes.reverse = leBytes 16 n := by
  rw [← toBytes_blockOf]
  rfl

theorem leNat_nextCounterBlock_le (cb : Block) :
    leNat (nextCounterBlock .le128 cb).toBytes = (leNat cb.toBytes + 1) % 2 ^ 128 := by
  rw [nextCounterBlock, toBytes_blockOf, leNat_leBytes]
  rfl

theorem leNat_nextCounterBlock_be (cb : Block) :
    leNat (nextCounterBlock .be128 cb).toBytes.reverse = (leNat cb.toBytes.reverse + 1) % 2 ^ 128 := by
  rw [nextCounterBlock, toBytes_reverse_blockOf, leNat_leBytes]
  rfl

theorem toBytes_counterBlock0 (c : BitVec 16) :
    (counterBlock0 c).toBytes =
      [BitVec.ofNat 8 c.toNat, BitVec.ofNat 8 (c.toNat / 256), 0, 0, 0, 0, 0, 0, 0, 0, 0, 0, 0, 0, 0, 0] := by
  have low : c.extractLsb' 0 8 = BitVec.ofNat 8 c.toNat := by
    simp [BitVec.extractLsb']
  have high : c.extractLsb' 8 8 = BitVec.ofNat 8 (c.toNat / 256) := by
    simp [BitVec.extractLsb', Nat.shiftRight_eq_div_pow]
  simp [counterBlock0, Block.toBytes, Column.toBytes, low, high]

/-- A count modulo `m`, from its start and its step. -/
theorem count_mod {f : Nat → Nat} {m a : Nat} (start : f 0 = a % m) (next : ∀ j, f (j + 1) = (f j + 1) % m) (j : Nat) :
    f j = (a + j) % m := by
  induction j with
  | zero => exact start
  | succ j ih => rw [next, ih, Nat.mod_add_mod, Nat.add_assoc]

/-- Settles O31: both readings start at the counter's and count one a block. -/
theorem counterBlocksCount : Obligations.CounterBlocksCount := by
  intro c j
  have low := c.isLt
  refine ⟨count_mod (f := fun j => leNat (counterBlock .le128 c j).toBytes) ?_ (fun j => leNat_nextCounterBlock_le _) j,
    count_mod (f := fun j => leNat (counterBlock .be128 c j).toBytes.reverse) ?_ (fun j => leNat_nextCounterBlock_be _) j,
    toBytes_counterBlock0 c⟩
  · simp [counterBlock, toBytes_counterBlock0, leNat]
    omega
  · have high : c.toNat / 256 < 256 := by omega
    simp only [counterBlock, toBytes_counterBlock0, List.reverse_cons, List.reverse_nil, List.nil_append, List.cons_append,
      leNat, BitVec.toNat_ofNat, BitVec.ofNat_eq_ofNat, Nat.reducePow, Nat.zero_mod, Nat.mod_eq_of_lt high]
    generalize c.toNat / 256 = hi at *
    have := Nat.mod_lt c.toNat (y := 256) (by decide)
    generalize c.toNat % 256 = lo at *
    omega

/-! ### The fields of a record (43_record_decoders.md R200) -/

theorem fieldAt_eq (pt : Bytes) (pos w : Nat) :
    fieldAt pt pos w = if canRead pt.length pos w then some (bitRead pt pos w) else none := by
  simp only [fieldAt, canRead_iff, bitRead_eq_fieldSum]

/-- Past the end of the plaintext no field is present. -/
theorem fieldAt_eq_none {pt : Bytes} {pos w : Nat} (h : 8 * pt.length < pos + w) : fieldAt pt pos w = none :=
  if_neg (Nat.not_le.mpr h)

theorem rawField_map_none {ws : List Nat} (j : Nat) : rawField (ws.map fun _ => none) j = none := by
  simp [rawField, List.getD_eq_getElem?_getD]

/-- Field `j` of the fields from a bit position on. -/
theorem rawField_readFrom (pt : Bytes) (cur : Nat) (ws : List Nat) {j : Nat} (hj : j < ws.length) :
    rawField (readFrom pt cur ws) j = fieldAt pt (cur + (ws.take j).sum) (ws.getD j 0) := by
  induction ws generalizing cur j with
  | nil => cases hj
  | cons w ws ih =>
    rw [readFrom]
    cases j with
    | zero =>
      simp only [List.take_zero, List.sum_nil, Nat.add_zero, List.getD_cons_zero, fieldAt_eq]
      split <;> rfl
    | succ j =>
      rw [List.take_succ_cons, List.sum_cons, List.getD_cons_succ, ← Nat.add_assoc]
      split
      next => exact ih (cur + w) (Nat.lt_of_succ_lt_succ hj)
      next out =>
        rw [canRead_iff] at out
        rw [fieldAt_eq_none (by omega)]
        exact rawField_map_none j

/-- Settles O38: along the layout, or nothing is present when the skip does not fit. -/
theorem fieldsAreReadInOrder : Obligations.FieldsAreReadInOrder := by
  intro pt skip ws j hj
  rw [readFields]
  split
  next => exact rawField_readFrom pt skip ws hj
  next out =>
    rw [canRead_iff] at out
    rw [fieldAt_eq_none (by omega), rawField_map_none]

/-! ### Field registers by their rules (43_record_decoders.md R201, R206) -/

theorem writeField_eq (sentinel : Option Nat) (value : Nat → Int) (raw : Option Nat) :
    writeField sentinel value raw = fieldRegister sentinel value raw := by
  cases raw <;> rfl

theorem writeAux_eq (aux type : Option Nat) : writeAux aux type = auxRegister aux type := by
  cases aux with
  | none => rcases type with _ | _ | _ | _ | _ <;> rfl
  | some r => rcases type with _ | _ | _ | _ | _ <;> rfl

/-- Settles O39: each register by its wire field (O38) and its rule. -/
theorem batteryMonitorLayout : Obligations.BatteryMonitorLayout := by
  intro skip pt
  have wire (j : Nat) (hj : j < 8) := fieldsAreReadInOrder pt skip bmWidths j hj
  simp (disch := decide) only [decodeBm, writeField_eq, writeAux_eq, wire]
  rfl

/-- Settles O42: each register by its wire field (O38), whose position depends on the bank order. -/
theorem acChargerLayout : Obligations.AcChargerLayout := by
  intro order pt
  cases order
  case grouped =>
    have wire (j : Nat) (hj : j < 10) := fieldsAreReadInOrder pt 0 (acWidths .grouped) j hj
    simp (disch := decide) only [decodeAc, acPosition, writeField_eq, wire]
    rfl
  case interleaved =>
    have wire (j : Nat) (hj : j < 10) := fieldsAreReadInOrder pt 0 (acWidths .interleaved) j hj
    simp (disch := decide) only [decodeAc, acPosition, writeField_eq, wire]
    rfl

/-- The product of two available signed 16-bit registers fits 32 bits (43_record_decoders.md R216). -/
theorem toInt_toReg32_mul {a b : FieldReg} (ha : InRange a (-32768) 32766) (hb : InRange b (-32768) 32766) (va : a.v = true)
    (vb : b.v = true) : (toReg32 (a.val.toInt * b.val.toInt)).toInt = a.val.toInt * b.val.toInt := by
  obtain ⟨alow, ahigh⟩ := ha va
  obtain ⟨blow, bhigh⟩ := hb vb
  have product : (a.val.toInt * b.val.toInt).natAbs ≤ 32768 * 32768 := by
    rw [Int.natAbs_mul]
    exact Nat.mul_le_mul (by omega) (by omega)
  exact toInt_toReg32 (by omega) (by omega)

/-- What the derived power's source says (43_record_decoders.md R216): 1 for a nonzero `pv_power`, 2 for a product of
available voltage and current, 0 for none. The value is exact where its factors have their ranges. -/
theorem derivedPower_spec {volt cur pv : FieldReg} (hv : InRange volt (-32768) 32766) (hc : InRange cur (-32768) 32766)
    (hp : InRange pv 0 65534) :
    let p := derivedPower volt cur pv
    p.1.rd = false ∧ p.2.rd = false ∧ p.2.v = true ∧ (p.1.v = true ↔ p.2.val ≠ 0) ∧
    (pv.v = true → pv.val ≠ 0 → p.2.val = 1 ∧ p.1.val.toInt = pv.val.toInt * 1000) ∧
    (¬ (pv.v = true ∧ pv.val ≠ 0) → volt.v = true → cur.v = true →
      p.2.val = 2 ∧ p.1.val.toInt = volt.val.toInt * cur.val.toInt) ∧
    (¬ (pv.v = true ∧ pv.val ≠ 0) → ¬ (volt.v = true ∧ cur.v = true) → p.2.val = 0 ∧ p.1.val = 0) := by
  unfold derivedPower
  split
  next field =>
    have exact1000 (available : pv.v = true) : (toReg32 (pv.val.toInt * 1000)).toInt = pv.val.toInt * 1000 := by
      obtain ⟨low, high⟩ := hp available
      exact toInt_toReg32 (by omega) (by omega)
    exact ⟨rfl, rfl, rfl, by simp, fun available _ => ⟨rfl, exact1000 available⟩, fun no => absurd field no,
      fun no => absurd field no⟩
  next noField =>
    split
    next product =>
      exact ⟨rfl, rfl, rfl, by simp, fun v nonzero => absurd ⟨v, nonzero⟩ noField,
        fun _ vv vc => ⟨rfl, toInt_toReg32_mul hv hc vv vc⟩, fun _ no => absurd product no⟩
    next noProduct =>
      exact ⟨rfl, rfl, rfl, by simp, fun v nonzero => absurd ⟨v, nonzero⟩ noField,
        fun _ vv vc => absurd ⟨vv, vc⟩ noProduct, fun _ _ => ⟨rfl, rfl⟩⟩

/-- Settles O41: the fields by their positions, the derived power by its three sources. -/
theorem solarChargerLayout : Obligations.SolarChargerLayout := by
  intro pt
  have register (sentinel : Option Nat) (value : Nat → Int) (j : Nat) (hj : j < 7) :
      writeField sentinel value (rawField (readFields pt 0 solarWidths) j) =
        fieldRegister sentinel value (fieldAt pt (0 + (solarWidths.take j).sum) (solarWidths.getD j 0)) := by
    rw [writeField_eq, fieldsAreReadInOrder pt 0 solarWidths j hj]
  have below := below_readFields pt 0 solarWidths
  obtain ⟨rd7, rd8, v8, source, field, product, neither⟩ :=
    derivedPower_spec (inRange_signed16 (below 2)) (inRange_signed16 (below 3)) (inRange_pv (below 5))
  exact ⟨register _ _ 0 (by decide), register _ _ 1 (by decide), register _ _ 2 (by decide), register _ _ 3 (by decide),
    register _ _ 4 (by decide), register _ _ 5 (by decide), register _ _ 6 (by decide), rd7, rd8, v8, source, field, product,
    neither, rfl, rfl⟩

end Sys2Proof.Proofs

/-! PROOFS. The bit reader (40_bitreader.md): its four commands in an unfaulted block, reads put together, and what any command
can do to the reader and to FAULT, said once in `ReaderEffect`. -/

namespace Sys2Proof.Proofs

open Sys2Proof.Machine Sys2Proof.Claims

/-! ### Fields put together (40_bitreader.md R137) -/

/-- The field of two widths is the first field with the second one above it. -/
theorem fieldSum_add (b : Bytes) (c m k : Nat) :
    fieldSum b c (m + k) = fieldSum b c m + 2 ^ m * fieldSum b (c + m) k := by
  induction m generalizing c with
  | zero => simp
  | succ m ih =>
    rw [Nat.add_right_comm, fieldSum_succ, fieldSum_succ, ih, Nat.add_right_comm c 1 m, ← Nat.add_assoc c m 1, Nat.pow_succ]
    ring

theorem bitOf_lt (b : Bytes) (p : Nat) : bitOf b p < 2 := bitAt_eq_bitOf b p ▸ bitAt_lt b p

/-- The top bit of a field's pattern is the last bit read. -/
theorem fieldSum_topBit (b : Bytes) (c : Nat) {n : Nat} (hn : 1 ≤ n) :
    fieldSum b c n / 2 ^ (n - 1) % 2 = bitOf b (c + n - 1) := by
  obtain ⟨m, rfl⟩ := Nat.exists_eq_add_of_le' hn
  have top : fieldSum b (c + m) 1 = bitOf b (c + m) := by simp [fieldSum_succ]
  rw [Nat.add_sub_cancel, ← Nat.add_assoc, Nat.add_sub_cancel, fieldSum_add, top,
    Nat.add_mul_div_left _ _ (Nat.two_pow_pos m), Nat.div_eq_of_lt (fieldSum_lt b c m), Nat.zero_add,
    Nat.mod_eq_of_lt (bitOf_lt b (c + m))]

/-- Sign extension of a field tests the last bit read (40_bitreader.md R134). -/
theorem sext_fieldSum (b : Bytes) (c : Nat) {n : Nat} (hn : 1 ≤ n) :
    sext n (fieldSum b c n) = (fieldSum b c n : Int) - if bitOf b (c + n - 1) = 1 then 2 ^ n else 0 := by
  rw [sext, fieldSum_topBit b c hn]
  split <;> simp

/-- Narrowing a number to a bit vector and shifting left commute. -/
theorem ofNat_shiftLeft (w a m : Nat) : BitVec.ofNat w (a <<< m) = BitVec.ofNat w a <<< m := by
  apply BitVec.eq_of_toNat_eq
  simp [Nat.shiftLeft_eq]

/-- In 32 bits the sum of two fields is their bitwise or: the second lies above the first. -/
theorem ofNat_fieldSum_add (b : Bytes) (c m k : Nat) :
    BitVec.ofNat 32 (fieldSum b c (m + k)) =
      BitVec.ofNat 32 (fieldSum b c m) ||| (BitVec.ofNat 32 (fieldSum b (c + m) k) <<< m) := by
  have apart : fieldSum b c (m + k) = fieldSum b c m ||| (fieldSum b (c + m) k <<< m) := by
    rw [Nat.or_comm, ← Nat.shiftLeft_add_eq_or_of_lt (fieldSum_lt b c m), fieldSum_add, Nat.shiftLeft_eq,
      Nat.mul_comm, Nat.add_comm]
  rw [apart, BitVec.ofNat_or, ofNat_shiftLeft]

/-! ### The four commands -/

/-- Settles O18: the command installs its operand on cleared results. -/
theorem bropenOpensReader : Obligations.BropenOpensReader := by
  intro s bytes hf
  rw [exec_bropen, State.accept_of_usable hf]
  rfl

/-- Settles O19: the command's answer is the comparison, on cleared results. -/
theorem brcanAnswersComparison : Obligations.BrcanAnswersComparison := by
  intro s n hf
  rw [exec_brcan, State.accept_of_usable hf]
  rfl

/-- Settles O21: the read fits, and the bit that sign extension tests is the last bit read. -/
theorem brreadsReadsSignedBits : Obligations.BrreadsReadsSignedBits := by
  intro s n hf h1 h32 hfit
  have value := bitFieldRead_of_fits (s := s.clearResults) (fun v => toReg32 (sext n.toNat v)) h1 h32 hfit
  rw [exec_brreads, State.accept_of_usable hf, value]
  simp only [State.clearResults_brBuf, State.clearResults_brCur, sext_fieldSum _ _ h1]
  rfl

/-- Settles O23: the first read leaves room for the second, and the two patterns lie side by side. -/
theorem readsCompose : Obligations.ReadsCompose := by
  intro s n1 n2 n hf h1 h2 sum h32 hfit
  obtain ⟨first, -⟩ := brreaduReadsBits s n1 hf h1 (by omega) (by omega)
  obtain ⟨whole, -⟩ := brreaduReadsBits s n hf (by omega) h32 hfit
  have room : s.brCur + n1.toNat + n2.toNat ≤ 8 * s.brLen := by omega
  refine ⟨_, _, _, first, (brreaduReadsBits _ n2 ?_ h2 (by omega) room).1, whole, ?_, ?_, rfl⟩
  · exact hf
  · simp only [sum]
    exact ofNat_fieldSum_add ..
  · simp only [sum, Nat.add_assoc]

/-- Settles O24: the answer 1 says that the width fits, and BRCAN moved nothing. -/
theorem checkedReadDoesNotFault : Obligations.CheckedReadDoesNotFault := by
  intro s t n hf h1 h32 h answer
  obtain ⟨usable, fits⟩ : t.fault = false ∧ t.brCur + n.toNat ≤ 8 * t.brLen := by
    rw [brcanAnswersComparison s n hf] at h
    injection h with h
    subst h
    exact ⟨hf, of_decide_eq_true answer⟩
  obtain ⟨unsigned, -⟩ := brreaduReadsBits t n usable h1 h32 fits
  exact ⟨_, _, unsigned, usable, rfl, brreadsReadsSignedBits t n usable h1 h32 fits, usable, rfl⟩

/-! ### Reads that fault (40_bitreader.md R133, 60_exceptions.md R289) -/

theorem bitFieldRead_of_illegal {s : State} {n : Nat} (result : Nat → BitVec 32) (bad : n = 0 ∨ 32 < n) :
    s.bitFieldRead n result = s.raise .faultBrWidth := by
  have width : legalWidth n = false := by
    rw [Bool.eq_false_iff, ne_eq, legalWidth_iff]
    omega
  simp [State.bitFieldRead, width]

theorem bitFieldRead_of_exhausted {s : State} {n : Nat} (result : Nat → BitVec 32) (h1 : 1 ≤ n) (h32 : n ≤ 32)
    (short : 8 * s.brLen < s.brCur + n) : s.bitFieldRead n result = s.raise .faultBrExhausted := by
  have width := legalWidth_iff.mpr ⟨h1, h32⟩
  have room : canRead s.brLen s.brCur n = false := by
    rw [Bool.eq_false_iff, ne_eq, canRead_iff]
    omega
  simp [State.bitFieldRead, width, room]

/-- When the read raises a sticky fault whatever the value would be, both read commands set FAULT and FAULT_CODE, and of the
result registers only the status. -/
theorem exec_reads_of_raise {s : State} {n : Byte} {st : Status} (hf : s.fault = false) (sticky : st.sticky = true)
    (raises : ∀ result, s.clearResults.bitFieldRead n.toNat result = s.clearResults.raise st) :
    exec (.brreadu n) s = .next { s with fault := true, faultCode := st.code, res := { Results.zero with rStatus := st.code } } ∧
    exec (.brreads n) s = .next { s with fault := true, faultCode := st.code, res := { Results.zero with rStatus := st.code } } := by
  rw [exec_brreadu, exec_brreads, State.accept_of_usable hf, State.accept_of_usable hf, raises, raises,
    State.raise_of_sticky _ sticky]
  exact ⟨rfl, rfl⟩

/-! ### What a command can do to the reader and to FAULT (40_bitreader.md R135, 60_exceptions.md R289) -/

/-- The bit reader and FAULT are as they were. -/
structure SameReader (s t : State) : Prop where
  fault : t.fault = s.fault
  buf : t.brBuf = s.brBuf
  len : t.brLen = s.brLen
  cur : t.brCur = s.brCur

theorem sameReader_clearResults (s : State) : SameReader s s.clearResults := ⟨rfl, rfl, rfl, rfl⟩

theorem sameReader_setRes {s t : State} (h : SameReader s t) (f : Results → Results) : SameReader s (t.setRes f) :=
  ⟨h.fault, h.buf, h.len, h.cur⟩

theorem sameReader_raise {s t : State} (h : SameReader s t) {st : Status} (notSticky : st.sticky = false) :
    SameReader s (t.raise st) :=
  ⟨by simp [notSticky, h.fault], h.buf, h.len, h.cur⟩

theorem sameReader_keyload {s t : State} {mac : Mac} {kbytes : Bytes} (hf : s.fault = false)
    (h : exec (.keyload mac kbytes) s = .next t) : SameReader s t := by
  have clear := sameReader_clearResults s
  simp only [exec, execKeyload] at h
  obtain rfl := eq_of_accept_eq hf h
  split
  next => exact sameReader_raise clear rfl
  next =>
    split
    next => exact sameReader_raise clear rfl
    next =>
      split
      next => exact sameReader_raise clear rfl
      next => exact ⟨rfl, rfl, rfl, rfl⟩

theorem sameReader_ctrcrypt {s t : State} {kbytes data : Bytes} {c : BitVec 16} (hf : s.fault = false)
    (h : exec (.ctrcrypt kbytes c data) s = .next t) : SameReader s t := by
  have clear := sameReader_clearResults s
  simp only [exec, execCtrcrypt] at h
  obtain rfl := eq_of_accept_eq hf h
  split
  next => exact sameReader_raise clear rfl
  next => exact sameReader_setRes clear _

theorem sameReader_parsehdr {s t : State} {raw : Bytes} (hf : s.fault = false) (h : exec (.parsehdr raw) s = .next t) :
    SameReader s t := by
  have clear := sameReader_clearResults s
  simp only [exec, execParsehdr] at h
  obtain rfl := eq_of_accept_eq hf h
  split
  next => exact sameReader_raise clear rfl
  next => exact sameReader_raise clear rfl
  next => exact sameReader_setRes clear _

/-- A DECODE raises no sticky fault, under any row. -/
theorem fault_of_isDecode {i : Instr} {s t : State} (decode : IsDecode i) (hf : s.fault = false) (h : exec i s = .next t) :
    t.fault = false := by
  cases effect_of_isDecode decode hf h with
  | answer other | provision _ other | read _ _ other | record _ _ other => exact absurd decode other
  | opened | crypt | skip | emit => exact hf

/-- Everything that an instruction can do to the reader and to FAULT of an unfaulted block. -/
inductive ReaderEffect (i : Instr) (s : State) : State → Prop
  /-- KEYLOAD, CTRCRYPT, BRCAN, PARSEHDR and CLASSIFY. -/
  | untouched {t : State} (same : SameReader s t) : ReaderEffect i s t
  /-- BROPEN, DECODE, DECREC and RESET. -/
  | replaced {t : State} (replaces : ReplacesReader i) (usable : t.fault = false) : ReaderEffect i s t
  /-- BRREADU and BRREADS. -/
  | read {n : Byte} (result : Nat → BitVec 32) (hi : i = .brreadu n ∨ i = .brreads n) :
      ReaderEffect i s (s.clearResults.bitFieldRead n.toNat result)

theorem readerEffect_of_exec {i : Instr} {s t : State} (hf : s.fault = false) (h : exec i s = .next t) :
    ReaderEffect i s t := by
  by_cases decode : IsDecode i
  · exact .replaced (.inl decode) (fault_of_isDecode decode hf h)
  cases i
  case reset =>
    injection h with h
    exact .replaced (.inr (.inr (.inr rfl))) (h ▸ rfl)
  case keyload => exact .untouched (sameReader_keyload hf h)
  case ctrcrypt => exact .untouched (sameReader_ctrcrypt hf h)
  case parsehdr => exact .untouched (sameReader_parsehdr hf h)
  case bropen bytes =>
    obtain rfl := eq_of_accept_eq hf (exec_bropen .. ▸ h)
    exact .replaced (.inr (.inl ⟨bytes, rfl⟩)) hf
  case brcan n =>
    obtain rfl := eq_of_accept_eq hf (exec_brcan .. ▸ h)
    exact .untouched (sameReader_setRes (sameReader_clearResults s) _)
  case brreadu n =>
    obtain rfl := eq_of_accept_eq hf (exec_brreadu .. ▸ h)
    exact .read _ (.inl rfl)
  case brreads n =>
    obtain rfl := eq_of_accept_eq hf (exec_brreads .. ▸ h)
    exact .read _ (.inr rfl)
  case classify model mode =>
    obtain rfl := eq_of_accept_eq hf (exec_classify .. ▸ h)
    exact .untouched (sameReader_setRes (sameReader_clearResults s) _)
  case decrec kind pt =>
    obtain rfl := eq_of_accept_eq hf (exec_decrec .. ▸ h)
    exact .replaced (.inr (.inr (.inl ⟨kind, pt, rfl⟩))) hf
  case decode env raw => exact absurd (isDecode_decode env raw) decode
  all_goals exact absurd (isDecode_of_frame rfl) decode

/-- Settles O17: the two failed checks of a read, and every other instruction by what it can do to FAULT. -/
theorem onlyUnsafeReadsFault : Obligations.OnlyUnsafeReadsFault := by
  refine ⟨fun s n hf bad => ?_, fun s n hf h1 h32 short => ?_, fun i s t hf notReadu notReads h => ?_⟩
  · exact exec_reads_of_raise hf (st := .faultBrWidth) rfl fun result => bitFieldRead_of_illegal result bad
  · exact exec_reads_of_raise hf (st := .faultBrExhausted) rfl fun result => bitFieldRead_of_exhausted result h1 h32 short
  · cases readerEffect_of_exec hf h with
    | untouched same => exact same.fault.trans hf
    | replaced _ usable => exact usable
    | @read n result hi =>
      rcases hi with hi | hi
      · exact absurd hi (notReadu n)
      · exact absurd hi (notReads n)

/-- A bit-field read moves the cursor forward or, when it faults, not at all; the buffer stays. -/
theorem bitFieldRead_forward (s : State) (n : Nat) (result : Nat → BitVec 32) :
    s.brCur ≤ (s.bitFieldRead n result).brCur ∧ (s.bitFieldRead n result).brBuf = s.brBuf ∧
      (s.bitFieldRead n result).brLen = s.brLen := by
  rcases s.bitFieldRead_cases n result with ⟨-, e⟩ | ⟨-, -, e⟩ | ⟨-, -, e⟩ <;> rw [e]
  · exact ⟨le_rfl, rfl, rfl⟩
  · exact ⟨le_rfl, rfl, rfl⟩
  · exact ⟨Nat.le_add_right .., rfl, rfl⟩

/-- Settles O25: a refusal touches no reader, and of the accepted instructions only a read moves the cursor of a reader that
stays. -/
theorem cursorIsForwardOnly : Obligations.CursorIsForwardOnly := by
  refine ⟨fun i s t h keeps => ?_, fun s t h => ?_⟩
  · cases hf : s.fault
    case true =>
      have hi : i ≠ .reset := fun hi => keeps (.inr (.inr (.inr hi)))
      obtain rfl := eq_refuseFaulted_of_exec hi hf h
      exact ⟨le_rfl, rfl, rfl⟩
    case false =>
      cases readerEffect_of_exec hf h with
      | untouched same => exact ⟨same.cur.ge, same.buf, same.len⟩
      | replaced replaces => exact absurd replaces keeps
      | @read n result => exact bitFieldRead_forward s.clearResults n.toNat result
  · rcases execMalformed_cases h with ⟨-, rfl⟩ | ⟨-, rfl⟩ <;> exact ⟨rfl, rfl, rfl⟩

end Sys2Proof.Proofs

/-! PROOFS. The cipher and counter mode (41_aes_ctr.md R150 to R166): the field, the S-box table and MixColumns, the round keys
as words, the cipher's rounds as a fold over them, counter mode by byte position, and CTRCRYPT. -/

namespace Sys2Proof.Proofs

open Sys2Proof.Machine Sys2Proof.Claims

/-! ### Multiplication in the field (41_aes_ctr.md R152) -/

/-- `xtime` is additive: the reduction depends on the top bit alone, and two reductions cancel. -/
theorem xtime_xor (a b : Byte) : xtime (a ^^^ b) = xtime a ^^^ xtime b := by
  have shifted : (a ^^^ b) <<< 1 = a <<< 1 ^^^ b <<< 1 := BitVec.shiftLeft_xor_distrib ..
  cases ha : a.getLsbD 7 <;> cases hb : b.getLsbD 7 <;>
    simp only [xtime, BitVec.getLsbD_xor, ha, hb, shifted, Bool.xor_self, Bool.xor_false, Bool.false_xor, if_true, if_false,
      Bool.false_eq_true]
  case false.true => rw [BitVec.xor_assoc]
  case true.false => ac_rfl
  case true.true =>
    calc a <<< 1 ^^^ b <<< 1 = a <<< 1 ^^^ b <<< 1 ^^^ (0x1B ^^^ 0x1B) := by simp
      _ = a <<< 1 ^^^ 0x1B ^^^ (b <<< 1 ^^^ 0x1B) := by ac_rfl

/-- A map that commutes with `xtime` commutes with its powers. -/
theorem xtimeIter_comm {f : Byte → Byte} (comm : ∀ x, xtime (f x) = f (xtime x)) (i : Nat) (a : Byte) :
    xtimeIter i (f a) = f (xtimeIter i a) := by
  induction i generalizing a with
  | zero => rfl
  | succ i ih => rw [xtimeIter, xtimeIter, comm, ih]

/-- An additive map that commutes with `xtime` may be applied to the first factor or to the product: it commutes with the
sum that the product is. -/
theorem gfMul_map {f : Byte → Byte} (additive : ∀ x y, f (x ^^^ y) = f x ^^^ f y) (comm : ∀ x, xtime (f x) = f (xtime x))
    (a b : Byte) : gfMul (f a) b = f (gfMul a b) := by
  have zero : f 0 = 0 := by simpa using additive 0 0
  unfold gfMul
  rw [← List.foldl_hom f (g₂ := fun acc i => if b.getLsbD i then acc ^^^ xtimeIter i (f a) else acc), zero]
  intro acc i
  split
  · rw [xtimeIter_comm comm, additive]
  · rfl

/-- The powers `xtime^i(1)` are the eight bits, so the sum over the bits of a byte is the byte: checked byte by byte. -/
theorem gfMul_one : ∀ b : Byte, gfMul 1 b = b := by decide

/-- Multiplication by `02` is `xtime`. -/
theorem gfMul_two (b : Byte) : gfMul 2 b = xtime b := by
  calc gfMul 2 b = gfMul (xtime 1) b := rfl
    _ = xtime (gfMul 1 b) := gfMul_map xtime_xor (fun _ => rfl) 1 b
    _ = xtime b := by rw [gfMul_one]

/-- Multiplication by `03` is `xtime` plus the factor itself. -/
theorem gfMul_three (b : Byte) : gfMul 3 b = xtime b ^^^ b := by
  have additive (x y : Byte) : xtime (x ^^^ y) ^^^ (x ^^^ y) = (xtime x ^^^ x) ^^^ (xtime y ^^^ y) := by
    rw [xtime_xor]; ac_rfl
  calc gfMul 3 b = gfMul (xtime 1 ^^^ 1) b := rfl
    _ = xtime (gfMul 1 b) ^^^ gfMul 1 b := gfMul_map (f := fun x => xtime x ^^^ x) additive (fun x => xtime_xor _ _) 1 b
    _ = xtime b ^^^ b := by rw [gfMul_one]

/-- Settles O30: the column's multipliers are the field's 2 and 3. -/
theorem mixColumnsMultipliesInField : Obligations.MixColumnsMultipliesInField := by
  intro x
  simp only [mixColumn, gfMul_two, gfMul_three]

/-! ### The S-box (41_aes_ctr.md R153) -/

/-- The inverse of the S-box's affine map: it takes an entry of the table back to the field inverse it was made from. -/
def affineInverse (s : Byte) : Byte := s.rotateLeft 1 ^^^ s.rotateLeft 3 ^^^ s.rotateLeft 6 ^^^ 0x05

/-- The affine map of R153 undoes `affineInverse`. -/
theorem affine_affineInverse (s : Byte) {b : Byte} (hb : b = affineInverse s) :
    b ^^^ b.rotateLeft 1 ^^^ b.rotateLeft 2 ^^^ b.rotateLeft 3 ^^^ b.rotateLeft 4 ^^^ 0x63 = s := by
  subst hb
  revert s
  decide

/-- The table, entry by entry: what the affine map was applied to is the field inverse of the index, and 0 for 0. -/
theorem affineInverse_sbox :
    ∀ a : Byte, (a = 0 ∧ affineInverse (sbox a) = 0) ∨ gfMul a (affineInverse (sbox a)) = 1 := by decide

/-- Settles O29: the inverse is read off the table's entry by undoing the affine map. -/
theorem sboxIsAffineInverse : Obligations.SboxIsAffineInverse := fun a =>
  ⟨affineInverse (sbox a), affineInverse_sbox a, (affine_affineInverse (sbox a) rfl).symm⟩

/-! ### The key expansion, word by word (41_aes_ctr.md R155) -/

/-- Words `4j` to `4j + 3` are the four columns of round key `j`. -/
theorem expandedWord_c0 (key : Block) (j : Nat) : expandedWord key (4 * j) = (roundKey key j).c0 := by
  simp [expandedWord]

theorem expandedWord_c1 (key : Block) (j : Nat) : expandedWord key (4 * j + 1) = (roundKey key j).c1 := by
  simp [expandedWord, Nat.mul_add_div]

theorem expandedWord_c2 (key : Block) (j : Nat) : expandedWord key (4 * j + 2) = (roundKey key j).c2 := by
  simp [expandedWord, Nat.mul_add_div]

theorem expandedWord_c3 (key : Block) (j : Nat) : expandedWord key (4 * j + 3) = (roundKey key j).c3 := by
  simp [expandedWord, Nat.mul_add_div]

/-- The first word of a round key, from the last word before it. -/
theorem expandedWord_first (key : Block) (j : Nat) :
    expandedWord key (4 * (j + 1)) = xorColumn (expandedWord key (4 * j))
      (xorColumn (subWord (rotWord (expandedWord key (4 * j + 3)))) ⟨rcon (j + 1), 0, 0, 0⟩) := by
  simp only [expandedWord_c0, expandedWord_c3]
  rfl

/-- Each other word of a round key, from the word before it. -/
theorem expandedWord_next (key : Block) (j : Nat) {r : Nat} (hr : r < 3) :
    expandedWord key (4 * (j + 1) + (r + 1)) =
      xorColumn (expandedWord key (4 * j + (r + 1))) (expandedWord key (4 * (j + 1) + r)) := by
  obtain rfl | rfl | rfl : r = 0 ∨ r = 1 ∨ r = 2 := by omega
  all_goals
    simp only [Nat.reduceAdd, Nat.add_zero, expandedWord_c0, expandedWord_c1, expandedWord_c2, expandedWord_c3]
    rfl

/-- The recurrence of R155, for every word after the key's own. -/
theorem expandedWord_recurrence (key : Block) {i : Nat} (hi : 4 ≤ i) :
    expandedWord key i = xorColumn (expandedWord key (i - 4))
      (if i % 4 = 0 then xorColumn (subWord (rotWord (expandedWord key (i - 1)))) ⟨rcon (i / 4), 0, 0, 0⟩
       else expandedWord key (i - 1)) := by
  obtain ⟨j, r, hr, rfl⟩ : ∃ j r, r < 4 ∧ i = 4 * (j + 1) + r := ⟨i / 4 - 1, i % 4, by omega, by omega⟩
  have above : 4 * (j + 1) + r - 4 = 4 * j + r := by omega
  rw [above]
  cases r with
  | zero =>
    have last : 4 * (j + 1) - 1 = 4 * j + 3 := by omega
    simp only [Nat.add_zero]
    rw [if_pos (Nat.mul_mod_right 4 (j + 1)), Nat.mul_div_cancel_left _ (by decide), last, expandedWord_first]
  | succ r => rw [if_neg (by omega), Nat.add_succ_sub_one, expandedWord_next key j (by omega)]

/-! ### The cipher's rounds (41_aes_ctr.md R156) -/

/-- The rounds that carry the round key along are the rounds over the round keys of R155. -/
theorem rounds_eq_foldl (key : Block) (n j : Nat) (s : Block) :
    rounds n (j + 1) (roundKey key j) s =
      (roundKey key (j + n),
        (List.range n).foldl (fun s k => addRoundKey (roundKey key (j + k + 1)) (mixColumns (shiftRows (subBytes s)))) s) := by
  induction n generalizing j s with
  | zero => rfl
  | succ n ih =>
    have next : nextRoundKey (j + 1) (roundKey key j) = roundKey key (j + 1) := rfl
    rw [rounds, next, ih, List.range_succ_eq_map, List.foldl_cons, List.foldl_map]
    simp only [Nat.add_zero, Nat.succ_eq_add_one, Nat.add_right_comm j 1, ← Nat.add_assoc]

/-- The cipher is ten rounds over the round keys, the last without MixColumns. -/
theorem encryptBlock_eq_foldl (key input : Block) :
    encryptBlock key input =
      addRoundKey (roundKey key 10) (shiftRows (subBytes
        ((List.range 9).foldl (fun s j => addRoundKey (roundKey key (j + 1)) (mixColumns (shiftRows (subBytes s))))
          (addRoundKey (roundKey key 0) input)))) := by
  have nine : rounds 9 1 key (addRoundKey key input) = _ := rounds_eq_foldl key 9 0 (addRoundKey key input)
  simp only [Nat.zero_add] at nine
  simp only [encryptBlock, nine]
  rfl

/-- Settles O28: the words are columns of the round keys, and the rounds are over those. -/
theorem cipherFollowsKeyExpansion : Obligations.CipherFollowsKeyExpansion :=
  ⟨fun key _ hi _ => expandedWord_recurrence key hi,
    fun key => ⟨expandedWord_c0 key 0, expandedWord_c1 key 0, expandedWord_c2 key 0, expandedWord_c3 key 0⟩,
    encryptBlock_eq_foldl⟩

/-- Settles O27: each check value by the cipher's run. -/
theorem cipherKnownAnswers : Obligations.CipherKnownAnswers := by
  unfold Obligations.CipherKnownAnswers
  decide +kernel

/-! ### Counter mode (41_aes_ctr.md R160 to R165) -/

/-- Byte `i` of a keystream that starts at counter block `j`. -/
theorem getD_keystream (inc : CtrInc) (key : Block) (c : BitVec 16) {n i : Nat} (j : Nat) (hi : i < 16 * n) :
    (keystream inc key n (counterBlock inc c j)).getD i 0 =
      blockByte (encryptBlock key (counterBlock inc c (j + i / 16))) (i % 16) := by
  induction n generalizing i j with
  | zero => omega
  | succ n ih =>
    have next : nextCounterBlock inc (counterBlock inc c j) = counterBlock inc c (j + 1) := rfl
    rw [keystream, next]
    by_cases first : i < 16
    · rw [List.getD_append _ _ _ _ first, Nat.div_eq_of_lt first, Nat.mod_eq_of_lt first]
      rfl
    · obtain ⟨k, rfl⟩ := Nat.exists_eq_add_of_le' (Nat.le_of_not_lt first)
      rw [List.getD_append_right _ _ _ _ (Nat.le_of_not_lt first), length_toBytes, Nat.add_sub_cancel, ih (j + 1) (by omega),
        Nat.add_mod_right, Nat.add_div_right _ (by decide), Nat.add_assoc j 1, Nat.add_comm 1]

/-- The keystream is long enough for the data. -/
theorem length_le_length_keystream (inc : CtrInc) (key cb : Block) (data : Bytes) :
    data.length ≤ (keystream inc key ((data.length + 15) / 16) cb).length := by
  rw [length_keystream]
  omega

/-- Settles O32: the output's byte is the data's and the keystream's at the same place. -/
theorem counterModeFormula : Obligations.CounterModeFormula := by
  refine fun inc key c data => ⟨length_ctr inc key c data, fun i hi => ?_⟩
  have room := hi.trans_le (length_le_length_keystream inc key (counterBlock0 c) data)
  have stream := getD_keystream inc key c (n := (data.length + 15) / 16) (i := i) 0 (by omega)
  rw [Nat.zero_add, counterBlock, List.getD_eq_getElem _ _ room] at stream
  rw [List.getD_eq_getElem _ _ (length_ctr inc key c data ▸ hi), List.getD_eq_getElem _ _ hi, ← stream]
  exact List.getElem_zipWith

/-- XOR-ing twice with the same keystream gives the data back. -/
theorem zipWith_xor_zipWith_xor {data stream : Bytes} (enough : data.length ≤ stream.length) :
    List.zipWith (· ^^^ ·) (List.zipWith (· ^^^ ·) data stream) stream = data := by
  induction data generalizing stream with
  | nil => rfl
  | cons d data ih =>
    obtain _ | ⟨k, stream⟩ := stream
    · simp at enough
    · simp only [List.zipWith_cons_cons, BitVec.xor_assoc, BitVec.xor_self, BitVec.xor_zero,
        ih (Nat.le_of_succ_le_succ enough)]

/-- Settles O33: the output has the input's length, so the second pass runs over the same keystream. -/
theorem counterModeIsItsOwnInverse : Obligations.CounterModeIsItsOwnInverse := by
  intro inc key c x
  rw [ctr, length_ctr]
  exact zipWith_xor_zipWith_xor (length_le_length_keystream inc key (counterBlock0 c) x)

/-- A keystream of at most one block never advances the counter block. -/
theorem keystream_of_le_one (inc inc' : CtrInc) (key cb : Block) {n : Nat} (hn : n ≤ 1) :
    keystream inc key n cb = keystream inc' key n cb := by
  obtain rfl | rfl := Nat.le_one_iff_eq_zero_or_eq_one.mp hn <;> rfl

/-- Settles O34: 16 bytes or fewer take one block at most. -/
theorem counterAdvanceIrrelevantInOneBlock : Obligations.CounterAdvanceIrrelevantInOneBlock := by
  intro key c x short
  rw [ctr, ctr, keystream_of_le_one .be128 .le128 key _ (by omega)]

/-! ### CTRCRYPT (41_aes_ctr.md R164, R166) -/

/-- Settles O35: a key of 16 bytes is there, and the command answers with counter mode at the default advance; any other
length raises. -/
theorem ctrcryptWritesData : Obligations.CtrcryptWritesData := by
  refine fun s kbytes c data hf => ⟨fun sixteen => ?_, fun other => ?_⟩
  · simp only [exec, execCtrcrypt, State.accept_of_usable hf, keyOfBytes, if_pos sixteen]
    rfl
  · simp only [exec, execCtrcrypt, State.accept_of_usable hf, keyOfBytes, if_neg other]
    exact congrArg _ (State.raise_of_not_sticky _ rfl)

end Sys2Proof.Proofs

/-! PROOFS. The record decoders (43_record_decoders.md): what a field register holds, the aux value by its type, and DECREC. -/

namespace Sys2Proof.Proofs

open Sys2Proof.Machine Sys2Proof.Claims

/-! ### Field registers (43_record_decoders.md R201, R206) -/

/-- A present pattern that is not the field's sentinel is an available value. -/
theorem writeField_of_ne {sentinel : Option Nat} {r : Nat} (other : sentinel ≠ some r) (value : Nat → Int) :
    writeField sentinel value (some r) = ⟨true, true, BitVec.ofInt 32 (value r)⟩ :=
  if_neg other

/-- A present pattern of a field with a sentinel: the comparison decides. -/
theorem writeField_some (k r : Nat) (value : Nat → Int) :
    writeField (some k) value (some r) = if r = k then ⟨true, false, 0⟩ else ⟨true, true, BitVec.ofInt 32 (value r)⟩ := by
  split
  next same => exact if_pos (congrArg some same.symm)
  next other => exact writeField_of_ne (fun same => other (Option.some.inj same).symm) value

/-- Settles O40: types 0, 1 and 2 write a field with their sentinel; type 3 and an unread type name no value. -/
theorem auxValueByType : Obligations.AuxValueByType := by
  refine ⟨fun _ _ => rfl, fun k value => ?sentinel, fun k r value other => ?value, fun r value => ?noSentinel,
    fun _ => rfl, fun r => ⟨rfl, ?signed, ?unsigned, ?temperature, rfl⟩⟩
  case sentinel => rw [writeField_some, if_pos rfl]
  case value => rw [writeField_some, if_neg other]
  case noSentinel => exact writeField_of_ne (Option.some_ne_none r).symm value
  case signed => exact writeField_some bmAuxSignedSentinel r (sext 16)
  case unsigned => exact writeField_some bmAuxUnsignedSentinel r unsignedValue
  case temperature => exact writeField_some bmAuxUnsignedSentinel r fun r => (r : Int) - kelvinOffset

/-! ### DECREC (43_record_decoders.md R230) -/

/-- In an unfaulted block DECREC writes the kind, its decoder's registers and the plausibility onto cleared results, and
empties the reader. -/
theorem exec_decrec_of_usable {s : State} (hf : s.fault = false) (kind : RecordKind) (pt : Bytes) :
    exec (.decrec kind pt) s = .next (emptied s { Results.zero with
      rKind := kindCode (.supported kind), fields := decodeRecord Config.params kind pt,
      rPlaus := plausible Config.params kind (decodeRecord Config.params kind pt) }) := by
  rw [exec_decrec, State.accept_of_usable hf]
  rfl

/-- Settles O45: at the defaults of R7 the kinds' decoders skip no sub-header and read the grouped bank order. -/
theorem decrecWritesReading : Obligations.DecrecWritesReading := fun _ pt hf =>
  ⟨exec_decrec_of_usable hf .batteryMonitor pt, exec_decrec_of_usable hf .solarCharger pt,
    exec_decrec_of_usable hf .acCharger pt⟩

end Sys2Proof.Proofs

/-! PROOFS. The plausibility test, the offset search and the DECODE transaction (44_offset_search_decode.md R240 to R252): the
bounds, the first plausible offset, and what a DECODE does with the slot it looks up. -/

namespace Sys2Proof.Proofs

open Sys2Proof.Machine Sys2Proof.Claims

/-! ### The plausibility test (44_offset_search_decode.md R240) -/

/-- The test at the default bounds, with the current's magnitude as a range of the current. -/
theorem plausible_default_iff (kind : RecordKind) (f : Fields) :
    plausible Config.params kind f = true ↔
      (voltageReg kind f).v = true ∧ (currentReg kind f).v = true ∧
        1000 ≤ (voltageReg kind f).val.toInt ∧ (voltageReg kind f).val.toInt ≤ 15000 ∧
        -(currentLimit Config.params kind : Int) ≤ (currentReg kind f).val.toInt ∧
        (currentReg kind f).val.toInt ≤ currentLimit Config.params kind := by
  have magnitude (x : Int) (n : Nat) : x.natAbs ≤ n ↔ -(n : Int) ≤ x ∧ x ≤ n := by omega
  rw [plausible_iff, magnitude]
  rfl

/-- Settles O44: the limits of the three kinds, and for a decoded AC record the ranges of its registers. -/
theorem plausibilityBounds : Obligations.PlausibilityBounds := by
  refine ⟨plausible_default_iff .batteryMonitor, plausible_default_iff .solarCharger, plausible_default_iff .acCharger,
    fun order pt => (plausible_default_iff .acCharger _).trans ⟨?_, ?_⟩⟩
  · rintro ⟨volt, cur, low, -⟩
    exact ⟨volt, cur, low⟩
  · rintro ⟨volt, cur, low⟩
    obtain ⟨-, -, -, -, voltRange, -, -, curRange, -⟩ := fieldRanges 0 order pt
    obtain ⟨-, voltHigh⟩ := voltRange volt
    obtain ⟨curLow, curHigh⟩ := curRange cur
    exact ⟨volt, cur, low, voltHigh.trans (by decide), le_trans (by decide) curLow, curHigh.trans (by decide)⟩

/-! ### The offset search (44_offset_search_decode.md R241, R242) -/

section Search

variable (p : Params) (kind : RecordKind) (key : Block) (c : BitVec 16) (ct : Bytes)

/-- The search over consecutive offsets is the library's search of a range. -/
theorem firstPlausible_eq_find? (n o : Nat) :
    firstPlausible p kind key c ct n o =
      ((List.range' o n).find? fun i => plausible p kind (readingAt p kind key c ct i)).map
        fun i => ⟨readingAt p kind key c ct i, i, true⟩ := by
  induction n generalizing o with
  | zero => rfl
  | succ n ih =>
    rw [firstPlausible, List.range'_succ, List.find?_cons]
    cases plausible p kind (readingAt p kind key c ct o) with
    | true => rfl
    | false => exact ih (o + 1)

/-- At offset 0 an empty ciphertext reads as the empty plaintext (44_offset_search_decode.md R242). -/
theorem readingAt_nil : readingAt p kind key c [] 0 = decodeRecord p kind [] := rfl

variable {p kind key c ct}

/-- The least plausible of the offsets tried is the answer. -/
theorem search_of_least {o : Nat} (tried : o < min 7 ct.length) (hit : plausible p kind (readingAt p kind key c ct o) = true)
    (least : ∀ i, i < o → plausible p kind (readingAt p kind key c ct i) = false) :
    search p kind key c ct = ⟨readingAt p kind key c ct o, o, true⟩ := by
  have found : ((List.range' 0 (min 7 ct.length)).find? fun i => plausible p kind (readingAt p kind key c ct i)) = some o := by
    rw [List.find?_range'_eq_some]
    exact ⟨hit, by simpa using tried, fun i _ hi => by simp [least i hi]⟩
  rw [search, offsetsTried, firstPlausible_eq_find?, found]
  rfl

/-- Without a plausible offset the answer is offset 0's reading. -/
theorem search_of_none (miss : ∀ o, o < min 7 ct.length → plausible p kind (readingAt p kind key c ct o) = false) :
    search p kind key c ct = ⟨readingAt p kind key c ct 0, 0, false⟩ := by
  have notFound : ((List.range' 0 (min 7 ct.length)).find? fun i => plausible p kind (readingAt p kind key c ct i)) = none := by
    rw [List.find?_range'_eq_none]
    exact fun i _ hi => by simp [miss i (by simpa using hi)]
  rw [search, offsetsTried, firstPlausible_eq_find?, notFound]
  dsimp only [Option.map_none]
  split
  next empty => rw [empty, readingAt_nil]
  next => rfl

end Search

/-- Settles O46: the least plausible offset is found, when there is one. -/
theorem searchFindsFirstPlausible : Obligations.SearchFindsFirstPlausible := by
  intro p kind key c ct
  refine ⟨fun hits => ?_, search_of_none⟩
  obtain ⟨tried, hit⟩ := Nat.find_spec hits
  have least (i : Nat) (before : i < Nat.find hits) : plausible p kind (readingAt p kind key c ct i) = false :=
    Bool.eq_false_iff.mpr fun earlier => Nat.find_min hits before ⟨before.trans tried, earlier⟩
  rw [search_of_least tried hit least]
  exact ⟨rfl, tried, rfl, hit, least⟩

/-- Of an empty plaintext no field of positive width is present. -/
theorem rawField_readFields_of_empty {pt : Bytes} (empty : pt.length = 0) {ws : List Nat} (positive : ∀ w ∈ ws, 0 < w)
    (skip j : Nat) : rawField (readFields pt skip ws) j = none := by
  by_cases hj : j < ws.length
  · have width := positive _ (List.getElem_mem hj)
    rw [fieldsAreReadInOrder pt skip ws j hj, List.getD_eq_getElem _ _ hj]
    exact fieldAt_eq_none (by omega)
  · exact List.getD_eq_default _ _ (by rw [length_readFields]; omega)

theorem rd_writeField {raw : Option Nat} (absent : raw = none) (sentinel : Option Nat) (value : Nat → Int) :
    (writeField sentinel value raw).rd = false := by
  rw [absent]
  rfl

theorem rd_writeAux {aux : Option Nat} (absent : aux = none) (type : Option Nat) : (writeAux aux type).rd = false := by
  rw [absent]
  rfl

/-- The derived power is computed, never read (43_record_decoders.md R216). -/
theorem rd_derivedPower (volt cur pv : FieldReg) :
    (derivedPower volt cur pv).1.rd = false ∧ (derivedPower volt cur pv).2.rd = false := by
  rcases derivedPower_cases volt cur pv with ⟨-, e⟩ | ⟨-, -, e⟩ | e <;> rw [e] <;> exact ⟨rfl, rfl⟩

/-- The decode of the empty plaintext has no field that was read. -/
theorem rd_decodeRecord_of_empty {pt : Bytes} (empty : pt.length = 0) (p : Params) (kind : RecordKind) (k : Fin 11) :
    (decodeRecord p kind pt)[k].rd = false := by
  cases kind with
  | batteryMonitor =>
    have absent := rawField_readFields_of_empty empty (ws := bmWidths) (by decide) p.subhdrSkipBits
    match k with
    | 0 | 1 | 2 | 4 | 5 | 6 | 7 => exact rd_writeField (absent _) ..
    | 3 => exact rd_writeAux (absent _) _
    | 8 | 9 | 10 => rfl
  | solarCharger =>
    have absent := rawField_readFields_of_empty empty (ws := solarWidths) (by decide) 0
    match k with
    | 0 | 1 | 2 | 3 | 4 | 5 | 6 => exact rd_writeField (absent _) ..
    | 7 => exact (rd_derivedPower ..).1
    | 8 => exact (rd_derivedPower ..).2
    | 9 | 10 => rfl
  | acCharger =>
    have absent := rawField_readFields_of_empty empty (ws := acWidths p.acBankOrder) (by cases p.acBankOrder <;> decide) 0
    match k with
    | 0 | 1 | 2 | 3 | 4 | 5 | 6 | 7 | 8 | 9 => exact rd_writeField (absent _) ..
    | 10 => rfl

/-- Settles O47: an empty ciphertext leaves no offset to try. -/
theorem emptyCiphertextGivesAbsentReading : Obligations.EmptyCiphertextGivesAbsentReading :=
  fun p kind _ _ => ⟨search_of_none (ct := []) fun _ tried => absurd tried (by simp), rd_decodeRecord_of_empty rfl p kind⟩

/-! ### The skips of DECODE (44_offset_search_decode.md R245 to R248) -/

/-- A raise that is no sticky fault, on emptied registers: the status. -/
theorem raise_emptied (s : State) (r : Results) {st : Status} (notSticky : st.sticky = false) :
    (emptied s r).raise st = emptied s { r with rStatus := st.code } :=
  State.raise_of_not_sticky _ notSticky

section Decode

variable {s : State} {env : Envelope} {raw : Bytes}

theorem exec_decode_of_long (hf : s.fault = false) (long : 31 < raw.length) :
    exec (.decode env raw) s = .next (emptied s { begun env with rStatus := 0x06 }) := by
  simp only [exec, execDecode, State.accept_of_usable hf, params_bufMax, if_pos long]
  exact congrArg _ (raise_emptied s (begun env) rfl)

theorem exec_decode_of_short (hf : s.fault = false) (short : raw.length < 6) :
    exec (.decode env raw) s = .next (emptied s { begun env with rStatus := 0x01 }) := by
  have bound : ¬ 31 < raw.length := by omega
  simp only [exec, execDecode, State.accept_of_usable hf, params_bufMax, if_neg bound, parseHeader_short short]
  exact congrArg _ (raise_emptied s (begun env) rfl)

theorem exec_decode_of_other_marker (hf : s.fault = false) (long : 6 ≤ raw.length) (fits : raw.length ≤ 31)
    (other : raw.getD 0 0 ≠ 0x10) :
    exec (.decode env raw) s = .next (emptied s { begun env with rStatus := 0x02 }) := by
  obtain ⟨marker, model, mode, c, ct, rfl⟩ := exists_encodeFrame long
  rw [length_encodeFrame] at fits
  rw [exec_decode_of_marker_ne s env (marker := marker) other model mode c fits, State.accept_of_usable hf]
  exact congrArg _ (raise_emptied s (begun env) rfl)

/-- A frame with marker `0x10` is dispatched by the fields read from its bytes. -/
theorem exec_decode_eq_acceptFrame (s : State) (env : Envelope) (long : 6 ≤ raw.length) (fits : raw.length ≤ 31)
    (known : raw.getD 0 0 = 0x10) :
    exec (.decode env raw) s =
      s.acceptFrame env (classify (modelOf raw) (modeOf raw)) (modelOf raw) (modeOf raw) (counterOf raw) (raw.drop 6) := by
  obtain ⟨marker, model, mode, c, ct, rfl⟩ := exists_encodeFrame long
  obtain rfl : marker = 0x10 := known
  rw [length_encodeFrame] at fits
  rw [modelOf_encodeFrame, modeOf_encodeFrame, counterOf_encodeFrame, drop_encodeFrame,
    exec_decode_frame s env model mode c fits]

/-- The codes of 10_state.md R34 tell the kinds apart. -/
theorem kindCode_injective : Function.Injective kindCode := by
  rintro (_ | _ | _ | _) (_ | _ | _ | _) same <;> simp [kindCode] at same ⊢

theorem classify_eq_of_kindTable {model : BitVec 16} {mode : Byte} {kind : DeviceKind}
    (h : kindTable model mode = kindCode kind) : classify model mode = kind :=
  kindCode_injective ((kindCode_classify model mode).trans h)

theorem exec_decode_of_unsupported (hf : s.fault = false) (long : 6 ≤ raw.length) (fits : raw.length ≤ 31)
    (known : raw.getD 0 0 = 0x10) (unsupported : kindTable (modelOf raw) (modeOf raw) = 0) :
    exec (.decode env raw) s = .next (emptied s
      { withHeader env 0 (modelOf raw) (modeOf raw) (counterOf raw) (raw.length - 6) with rStatus := 0x03 }) := by
  rw [exec_decode_eq_acceptFrame s env long fits known, classify_eq_of_kindTable (kind := .unsupported) unsupported,
    acceptFrame_unsupported hf, List.length_drop]

/-- A decodable frame reaches the key lookup with the registers of its header (R247 stages 1 to 4). -/
theorem exec_decode_of_decodable (hf : s.fault = false) {k : RecordKind} (decodable : Decodable raw k) :
    exec (.decode env raw) s =
      .next ((emptied s
        (withHeader env (kindCode (.supported k)) (modelOf raw) (modeOf raw) (counterOf raw) (raw.length - 6))).decryptAndDeliver
          k env.mac ⟨0x10, modelOf raw, modeOf raw, counterOf raw, raw.drop 6⟩) := by
  obtain ⟨long, fits, known, kind⟩ := decodable
  rw [exec_decode_eq_acceptFrame s env long fits known, classify_eq_of_kindTable kind, State.acceptFrame,
    State.accept_of_usable hf, dispatchFrame_supported, List.length_drop]

/-- A decodable frame that stages 5 and 6 skip: the header's registers and the status. -/
theorem exec_decode_of_raise (hf : s.fault = false) {k : RecordKind} (decodable : Decodable raw k) {st : Status}
    (notSticky : st.sticky = false)
    (raises : ∀ r f, f.counter = counterOf raw →
      (emptied s r).decryptAndDeliver k env.mac f = (emptied s r).raise st) :
    exec (.decode env raw) s = .next (emptied s
      { withHeader env (kindCode (.supported k)) (modelOf raw) (modeOf raw) (counterOf raw) (raw.length - 6) with
        rStatus := st.code }) := by
  rw [exec_decode_of_decodable hf decodable, raises _ _ rfl, raise_emptied _ _ notSticky]

end Decode

theorem decryptAndDeliver_of_no_slot {s : State} {mac : Mac} (missing : lookup s.slots mac = none) (kind : RecordKind)
    (f : Frame) : s.decryptAndDeliver kind mac f = s.raise .skipNoKey := by
  simp [State.decryptAndDeliver, missing]

theorem decryptAndDeliver_of_no_key {s : State} {mac : Mac} {i : Nat} (found : lookup s.slots mac = some i)
    (keyless : (s.slot i).keyOk = false) (kind : RecordKind) (f : Frame) :
    s.decryptAndDeliver kind mac f = s.raise .skipNoKey := by
  simp [State.decryptAndDeliver, found, keyless]

/-- The duplicate test (44_offset_search_decode.md R246). -/
theorem decryptAndDeliver_of_duplicate {s : State} {mac : Mac} {i : Nat} {f : Frame} (found : lookup s.slots mac = some i)
    (keyOk : (s.slot i).keyOk = true) (seen : (s.slot i).seen = true) (same : (s.slot i).lastCtr = f.counter)
    (kind : RecordKind) : s.decryptAndDeliver kind mac f = s.raise .skipDuplicate := by
  simp [State.decryptAndDeliver, found, keyOk, isDuplicate, seen, same]

/-- A decodable frame with the counter that its keyed device emitted last is a duplicate. -/
theorem exec_decode_of_duplicate {s : State} {env : Envelope} {raw : Bytes} {k : RecordKind} {i : Nat} (hf : s.fault = false)
    (decodable : Decodable raw k) (found : lookup s.slots env.mac = some i) (keyOk : (s.slot i).keyOk = true)
    (seen : (s.slot i).seen = true) (same : (s.slot i).lastCtr = counterOf raw) :
    exec (.decode env raw) s = .next (emptied s
      { withHeader env (kindCode (.supported k)) (modelOf raw) (modeOf raw) (counterOf raw) (raw.length - 6) with
        rStatus := 0x05 }) :=
  exec_decode_of_raise hf decodable (st := .skipDuplicate) rfl fun r _ counter =>
    decryptAndDeliver_of_duplicate (s := emptied s r) found keyOk seen (same.trans counter.symm) k

/-- Settles O48: the skips before the header is recorded, the unsupported kind, and the skips of the key lookup and of the
duplicate test. -/
theorem decodeSkips : Obligations.DecodeSkips := fun s _ _ hf =>
  ⟨exec_decode_of_long hf, exec_decode_of_short hf, exec_decode_of_other_marker hf, exec_decode_of_unsupported hf,
    fun k decodable missing => exec_decode_of_raise hf decodable (st := .skipNoKey) rfl fun r f _ =>
      decryptAndDeliver_of_no_slot (s := emptied s r) (lookup_eq_none.mpr missing) k f,
    fun k _ decodable found keyless => exec_decode_of_raise hf decodable (st := .skipNoKey) rfl fun r f _ =>
      decryptAndDeliver_of_no_key (s := emptied s r) found keyless k f,
    fun _ _ => exec_decode_of_duplicate hf⟩

/-! ### Emission and duplicates (44_offset_search_decode.md R247, R251) -/

/-- Settles O49: the frame is dispatched to its kind, and a frame of a fresh device is emitted. -/
theorem decodeEmitsReading : Obligations.DecodeEmitsReading := by
  intro s env raw k i hf decodable fresh
  obtain ⟨long, fits, known, kind⟩ := decodable
  rw [exec_decode_eq_acceptFrame s env long fits known, classify_eq_of_kindTable kind]
  exact acceptFrame_emits hf fresh k (modelOf raw) (modeOf raw) (raw.drop 6)

/-- Writing the tracker of the slot that `lookup` finds changes neither its use nor its MAC, so `lookup` finds it again. -/
theorem lookup_set_tracker {s : State} {mac : Mac} {i : Nat} (found : lookup s.slots mac = some i) (seen : Bool)
    (c : BitVec 16) : lookup (s.slots.set i { s.slot i with seen := seen, lastCtr := c }) mac = some i := by
  obtain ⟨lt, used, hmac, first⟩ := lookup_eq_some.mp found
  refine lookup_eq_some.mpr ⟨by simpa using lt, ?_, ?_, fun j before => ?_⟩
  · simpa [s.slot_of_lt lt] using used
  · simpa [s.slot_of_lt lt] using hmac
  · simpa [List.getElem_set_ne (Nat.ne_of_gt before)] using first j before

/-- After a fresh device's frame is emitted the device is found again, and its tracker holds the frame's counter. -/
theorem exec_decode_leaves_tracker {s : State} {env : Envelope} {raw : Bytes} {k : RecordKind} {i : Nat}
    (hf : s.fault = false) (decodable : Decodable raw k) (fresh : Fresh s env.mac i (counterOf raw)) :
    ∃ t, exec (.decode env raw) s = .next t ∧ t.fault = false ∧ t.res.rStatus = 0x00 ∧ t.res.rEmit = true ∧
      lookup t.slots env.mac = some i ∧ (t.slot i).keyOk = true ∧ (t.slot i).seen = true ∧
      (t.slot i).lastCtr = counterOf raw := by
  have emits := decodeEmitsReading s env raw k i hf decodable fresh
  obtain ⟨found, keyOk, -⟩ := fresh
  obtain ⟨lt, -⟩ := lookup_eq_some.mp found
  refine ⟨_, emits, hf, rfl, rfl, lookup_set_tracker found true (counterOf raw), ?_⟩
  rw [slot_of_slots_eq_set (s := s) rfl lt, if_pos rfl]
  exact ⟨keyOk, rfl, rfl⟩

/-- Settles O55: after the emission the tracker holds the counter, the duplicate leaves the slot table, and another counter
is fresh after either. -/
theorem duplicatesAreSuppressed : Obligations.DuplicatesAreSuppressed := by
  intro s env env2 env3 raw raw2 raw3 k k2 k3 i hf dec dec2 dec3 mac2 mac3 fresh same other
  obtain ⟨t, emits, usable, ok, emit, found, keyOk, seen, last⟩ := exec_decode_leaves_tracker hf dec fresh
  have duplicate := exec_decode_of_duplicate (env := env2) usable dec2 (mac2 ▸ found) keyOk seen (last.trans same.symm)
  have fresh3 : Fresh t env3.mac i (counterOf raw3) := ⟨mac3 ▸ found, keyOk, .inr (last ▸ other.symm)⟩
  obtain ⟨v, emitsV, -, okV, emitV, -⟩ := exec_decode_leaves_tracker (s := emptied t _) usable dec3 fresh3
  obtain ⟨w, emitsW, -, okW, emitW, -⟩ := exec_decode_leaves_tracker usable dec3 fresh3
  exact ⟨t, _, v, w, emits, ok, emit, duplicate, rfl, rfl, rfl, emitsV, okV, emitV, emitsW, okW, emitW⟩

/-! ### DECODE as a function of the looked-up slot (44_offset_search_decode.md R252) -/

/-- How a DECODE runs in every unfaulted block: it ends before the key lookup with registers that its operands give, or it
reaches the key lookup with such registers. -/
theorem exec_decode_cases (env : Envelope) (raw : Bytes) :
    (∃ r, ∀ s : State, s.fault = false → exec (.decode env raw) s = .next (emptied s r)) ∨
    ∃ r kind f, ∀ s : State, s.fault = false →
      exec (.decode env raw) s = .next ((emptied s r).decryptAndDeliver kind env.mac f) := by
  by_cases long : 31 < raw.length
  · exact .inl ⟨_, fun _ hf => exec_decode_of_long hf long⟩
  by_cases short : raw.length < 6
  · exact .inl ⟨_, fun _ hf => exec_decode_of_short hf short⟩
  have fits := Nat.not_lt.mp long
  have whole := Nat.not_lt.mp short
  by_cases known : raw.getD 0 0 = 0x10
  · cases kind : classify (modelOf raw) (modeOf raw) with
    | unsupported =>
      exact .inl ⟨_, fun _ hf => exec_decode_of_unsupported hf whole fits known (by rw [← kindCode_classify, kind]; rfl)⟩
    | supported k =>
      exact .inr ⟨_, _, _, fun _ hf => exec_decode_of_decodable hf ⟨whole, fits, known, by rw [← kindCode_classify, kind]⟩⟩
  · exact .inl ⟨_, fun _ hf => exec_decode_of_other_marker hf whole fits known⟩

/-- Stages 5 to 8 as a function of the result registers and the looked-up slot (R245 to R247): the registers and the slot
that they leave. -/
def afterLookup (r : Results) (kind : RecordKind) (f : Frame) : Option Slot → Results × Option Slot
  | none => ({ r with rStatus := Status.skipNoKey.code }, none)
  | some sl =>
    if sl.keyOk = false then ({ r with rStatus := Status.skipNoKey.code }, some sl)
    else if isDuplicate sl f.counter = true then ({ r with rStatus := Status.skipDuplicate.code }, some sl)
    else
      let found := search Config.params kind sl.key f.counter f.ciphertext
      ({ r with
          fields := found.reading, rOffset := BitVec.ofNat 3 found.offset, rPlaus := found.plaus, rEmit := true },
        some { sl with seen := true, lastCtr := f.counter })

/-- The machine's stages 5 to 8 are that function. -/
theorem decryptAndDeliver_eq_afterLookup (s : State) (kind : RecordKind) (mac : Mac) (f : Frame) :
    ((s.decryptAndDeliver kind mac f).res, (lookup s.slots mac).map (s.decryptAndDeliver kind mac f).slot) =
      afterLookup s.res kind f ((lookup s.slots mac).map s.slot) := by
  rcases s.decryptAndDeliver_cases kind mac f with ⟨missing, e⟩ | ⟨i, found, ⟨keyless, e⟩ | ⟨keyOk, duplicate, e⟩ |
    ⟨keyOk, new, e⟩⟩
  · simp [e, missing, afterLookup]
  · simp [e, found, keyless, afterLookup]
  · simp [e, found, keyOk, duplicate, afterLookup]
  · obtain ⟨lt, -⟩ := lookup_eq_some.mp found
    simp [e, found, keyOk, new, afterLookup, slot_of_slots_eq_set (State.deliver_slots s i f.counter _) lt]

/-- What a DECODE leaves: the result registers, the emptied reader, and, when it emits, the tracker of the slot that it looked
up. -/
theorem exec_decode_effect {s t : State} {env : Envelope} {raw : Bytes} (hf : s.fault = false)
    (h : exec (.decode env raw) s = .next t) :
    (∃ r, t = emptied s r) ∨
    ∃ r i c found, lookup s.slots env.mac = some i ∧ t = (emptied s r).deliver i c found := by
  rcases exec_decode_cases env raw with ⟨r, run⟩ | ⟨r, kind, f, run⟩
  · obtain rfl := Host.Outcome.next.inj ((run s hf).symm.trans h)
    exact .inl ⟨r, rfl⟩
  · obtain rfl := Host.Outcome.next.inj ((run s hf).symm.trans h)
    rcases (emptied s r).decryptAndDeliver_cases kind env.mac f with ⟨-, e⟩ | ⟨i, found, ⟨-, e⟩ | ⟨-, -, e⟩ | ⟨-, -, e⟩⟩ <;>
      rw [e]
    · exact .inl ⟨_, raise_emptied s r rfl⟩
    · exact .inl ⟨_, raise_emptied s r rfl⟩
    · exact .inl ⟨_, raise_emptied s r rfl⟩
    · exact .inr ⟨r, i, _, _, found, rfl⟩

/-- Settles O57: a DECODE that reaches the key lookup is a function of the slot it finds, and of the slot table it writes
that slot's tracker only. -/
theorem decodeIsPure : Obligations.DecodeIsPure := by
  refine ⟨fun s s' t t' env raw hf hf' same h h' => ?_, fun s t env raw hf h => ?_⟩
  · rcases exec_decode_cases env raw with ⟨r, run⟩ | ⟨r, kind, f, run⟩ <;>
      obtain rfl := Host.Outcome.next.inj ((run s hf).symm.trans h) <;>
      obtain rfl := Host.Outcome.next.inj ((run s' hf').symm.trans h')
    · exact ⟨rfl, same⟩
    · have left := decryptAndDeliver_eq_afterLookup (emptied s r) kind env.mac f
      have right := decryptAndDeliver_eq_afterLookup (emptied s' r) kind env.mac f
      exact Prod.mk.inj (left.trans ((congrArg (afterLookup r kind f) same).trans right.symm))
  · rcases exec_decode_effect hf h with ⟨r, rfl⟩ | ⟨r, i, c, reading, found, rfl⟩
    · exact ⟨rfl, rfl, fun _ => ⟨fun _ => rfl, rfl⟩⟩
    · obtain ⟨lt, -⟩ := lookup_eq_some.mp found
      refine ⟨rfl, List.length_set, fun j => ?_⟩
      rw [slot_of_slots_eq_set (s := s) rfl lt j]
      split
      next here => exact ⟨fun elsewhere => absurd (here ▸ found) elsewhere, here ▸ rfl⟩
      next => exact ⟨fun _ => rfl, rfl⟩

end Sys2Proof.Proofs

/-! PROOFS. The host commands (45_host_commands.md): the step on the command at the head of the port, RESET, KEYLOAD, what each
command does to the shared bit reader, and that the stored keys stay hidden from all but a DECODE. -/

namespace Sys2Proof.Proofs

open Sys2Proof.Machine Sys2Proof.Claims

/-! ### The step on a command at the port (45_host_commands.md R265) -/

theorem step_of_rejected {s : State} {cmd : Bytes} {rest : List Bytes} {e : DecodeError} (port : s.port = cmd :: rest)
    (rejected : decodeCommand cmd = .error e) : step s = execMalformed { s with port := rest } := by
  simp only [step, State.fetch, port, rejected]

/-- Settles O6: the fetch takes the head of the port, and the decoder accepts it. -/
theorem stepRunsDecodedCommand : Obligations.StepRunsDecodedCommand := by
  intro s cmd rest i port decoded
  simp only [step, State.fetch, port, decoded]

theorem bitFieldRead_port (s : State) (n : Nat) (result : Nat → BitVec 32) : (s.bitFieldRead n result).port = s.port := by
  rcases s.bitFieldRead_cases n result with ⟨-, e⟩ | ⟨-, -, e⟩ | ⟨-, -, e⟩ <;> rw [e] <;> rfl

/-- An accepted command does not touch the port (log entry 1). -/
theorem Effect.port {i : Instr} {s t : State} (h : Effect i s t) : t.port = s.port := by
  cases h with
  | read n result => exact bitFieldRead_port ..
  | _ => rfl

/-- No instruction stops the machine, and none takes a further command from the port. -/
theorem exec_answers (i : Instr) (s : State) : ∃ t, exec i s = .next t ∧ t.port = s.port := by
  by_cases hi : i = .reset
  · subst hi
    exact ⟨s.toReset, rfl, rfl⟩
  obtain ⟨rule, run⟩ := exec_accept i hi
  cases hf : s.fault
  case true => exact ⟨_, (run s).trans (State.accept_of_faulted hf rule), rfl⟩
  case false =>
    have answer := (run s).trans (State.accept_of_usable hf rule)
    exact ⟨_, answer, (effect_of_exec hi hf answer).port⟩

theorem execMalformed_answers (s : State) : ∃ t, execMalformed s = .next t ∧ t.port = s.port := by
  have answer := s.accept_eq (·.raise .badCommand)
  refine ⟨_, answer, ?_⟩
  rcases execMalformed_cases answer with ⟨-, e⟩ | ⟨-, e⟩ <;> rw [e]
  rfl

/-- Settles O7: the decoder accepts or rejects the command, and both are answered. -/
theorem stepAnswersEveryCommand : Obligations.StepAnswersEveryCommand := by
  intro s cmd rest port
  cases decoded : decodeCommand cmd with
  | ok i => exact stepRunsDecodedCommand s cmd rest i port decoded ▸ exec_answers i _
  | error e => exact step_of_rejected port decoded ▸ execMalformed_answers _

/-! ### RESET (45_host_commands.md R260, 70_reset_and_hazards.md R320) -/

/-- Settles O11: every element of the reset state by its definition. -/
theorem resetGivesResetState : Obligations.ResetGivesResetState :=
  ⟨fun _ => rfl, rfl, rfl, rfl, rfl, rfl, rfl, rfl⟩

/-- A faulted block refuses every command but RESET (60_exceptions.md R290). -/
theorem exec_of_faulted {i : Instr} {s : State} (hi : i ≠ .reset) (hf : s.fault = true) :
    exec i s = .next s.refuseFaulted := by
  obtain ⟨t, answer, -⟩ := exec_answers i s
  exact eq_refuseFaulted_of_exec hi hf answer ▸ answer

/-- Settles O10: a faulted block refuses every command but RESET, malformed ones too, and only the byte 00 decodes to
RESET. -/
theorem faultedStepAcceptsOnlyOneByteReset : Obligations.FaultedStepAcceptsOnlyOneByteReset := by
  refine fun s cmd rest hf port => ⟨fun other => ?_, fun reset => ?_⟩
  · have faulted : State.fault { s with port := rest } = true := hf
    cases decoded : decodeCommand cmd with
    | ok i =>
      have hi : i ≠ .reset := by
        rintro rfl
        exact other (eq_of_decodeCommand_reset decoded)
      exact (stepRunsDecodedCommand s cmd rest i port decoded).trans (exec_of_faulted hi faulted)
    | error e =>
      rw [step_of_rejected port decoded, execMalformed, State.accept_of_faulted faulted]
      rfl
  · subst reset
    exact stepRunsDecodedCommand s [0x00] rest .reset port rfl

/-! ### KEYLOAD (45_host_commands.md R262) -/

section Keyload

variable {s : State} {mac : Mac} {kbytes : Bytes}

theorem exec_keyload_of_length_ne (hf : s.fault = false) (length : kbytes.length ≠ 16) :
    exec (.keyload mac kbytes) s = .next { s with res := { Results.zero with rStatus := 0x10 } } := by
  simp only [exec, execKeyload, State.accept_of_usable hf, keyOfBytes, if_neg length]
  exact congrArg _ (State.raise_of_not_sticky _ rfl)

theorem exec_keyload_of_known (hf : s.fault = false) (length : kbytes.length = 16) (known : lookup s.slots mac ≠ none) :
    exec (.keyload mac kbytes) s = .next { s with res := { Results.zero with rStatus := 0x11 } } := by
  have present : (lookup s.clearResults.slots mac).isSome = true := Option.isSome_iff_ne_none.mpr known
  simp only [exec, execKeyload, State.accept_of_usable hf, keyOfBytes, if_pos length, if_pos present]
  exact congrArg _ (State.raise_of_not_sticky _ rfl)

theorem exec_keyload_of_full (hf : s.fault = false) (length : kbytes.length = 16) (new : lookup s.slots mac = none)
    (full : firstFree s.slots = none) :
    exec (.keyload mac kbytes) s = .next { s with res := { Results.zero with rStatus := 0x12 } } := by
  simp only [exec, execKeyload, State.accept_of_usable hf, keyOfBytes, if_pos length, State.clearResults_slots, new, full]
  exact congrArg _ (State.raise_of_not_sticky _ rfl)

theorem exec_keyload_of_free (hf : s.fault = false) (length : kbytes.length = 16) (new : lookup s.slots mac = none) {i : Nat}
    (free : firstFree s.slots = some i) :
    exec (.keyload mac kbytes) s =
      .next (s.clearResults.provision i mac (blockOf fun n => kbytes.getD n 0)) := by
  simp only [exec, execKeyload, State.accept_of_usable hf, keyOfBytes, if_pos length, State.clearResults_slots, new, free]
  rfl

end Keyload

/-- Settles O59: the three tests of KEYLOAD in order, each by what `lookup` or `firstFree` finds. -/
theorem keyloadProvisions : Obligations.KeyloadProvisions := by
  refine fun s mac kbytes hf => ⟨exec_keyload_of_length_ne hf, fun length known => ?_, fun length full => ?_,
    fun i length new lt free below => ?_⟩
  · refine exec_keyload_of_known hf length fun missing => ?_
    obtain ⟨sl, mem, used, same⟩ := known
    exact lookup_eq_none.mp missing sl mem used same
  · have new : lookup s.slots mac = none := lookup_eq_none.mpr fun sl mem _ => (full sl mem).2
    exact exec_keyload_of_full hf length new (firstFree_eq_none.mpr fun sl mem => (full sl mem).1)
  · have least : firstFree s.slots = some i := by
      refine firstFree_eq_some.mpr ⟨lt, s.slot_of_lt lt ▸ free, fun j hj => ?_⟩
      exact s.slot_of_lt (hj.trans lt) ▸ below j hj
    exact exec_keyload_of_free hf length (lookup_eq_none.mpr new) least

/-! ### The shared bit reader (45_host_commands.md R270) -/

/-- A DECODE leaves the reader emptied, also when it skips. -/
theorem reader_of_isDecode {i : Instr} {s t : State} (decode : IsDecode i) (hf : s.fault = false) (h : exec i s = .next t) :
    t.brBuf = [] ∧ t.brLen = 0 ∧ t.brCur = 0 := by
  cases effect_of_isDecode decode hf h with
  | answer other | provision _ other | read _ _ other | record _ _ other => exact absurd decode other
  | opened hi | crypt _ hi => simp [hi, IsDecode, Instr.frame] at decode
  | skip | emit => exact ⟨rfl, rfl, rfl⟩

theorem sameReader_classify {s t : State} {model : BitVec 16} {mode : Byte} (hf : s.fault = false)
    (h : exec (.classify model mode) s = .next t) : SameReader s t := by
  obtain rfl := eq_of_accept_eq hf (exec_classify .. ▸ h)
  exact sameReader_setRes (sameReader_clearResults s) _

/-- Settles O26: DECODE and DECREC start from an emptied reader; a refused command touches none, and PARSEHDR, CLASSIFY,
CTRCRYPT and KEYLOAD, accepted, do not either. -/
theorem readerUnitIsShared : Obligations.ReaderUnitIsShared := by
  refine ⟨fun i s t hf hi h => ?_, fun i s t hi h => ?_⟩
  · rcases hi with decode | ⟨kind, pt, rfl⟩
    · exact reader_of_isDecode decode hf h
    · obtain rfl := Host.Outcome.next.inj ((exec_decrec_of_usable hf kind pt).symm.trans h)
      exact ⟨rfl, rfl, rfl⟩
  · cases hf : s.fault
    case true =>
      have noReset : i ≠ .reset := by
        rintro rfl
        simp at hi
      obtain rfl := eq_refuseFaulted_of_exec noReset hf h
      exact ⟨rfl, rfl, rfl⟩
    case false =>
      have same : SameReader s t := by
        rcases hi with ⟨_, rfl⟩ | ⟨_, _, rfl⟩ | ⟨_, _, _, rfl⟩ | ⟨_, _, rfl⟩
        · exact sameReader_parsehdr hf h
        · exact sameReader_classify hf h
        · exact sameReader_ctrcrypt hf h
        · exact sameReader_keyload hf h
      exact ⟨same.buf, same.len, same.cur⟩

/-! ### Stored keys (45_host_commands.md R263) -/

/-- The state with another slot table. -/
def withSlots (s : State) (slots : List Slot) : State := { s with slots := slots }

/-- An accepted command does the same with another slot table when its rule does. -/
theorem accept_withSlots {s t : State} (slots : List Slot) {rule : State → State} (hf : s.fault = false)
    (h : s.accept rule = .next t) (ruled : rule (withSlots s.clearResults slots) = withSlots (rule s.clearResults) slots) :
    ∃ after, (withSlots s slots).accept rule = .next (withSlots t after) := by
  obtain rfl := eq_of_accept_eq hf h
  exact ⟨slots, (State.accept_of_usable (s := withSlots s slots) hf rule).trans (congrArg _ ruled)⟩

theorem bitFieldRead_withSlots (s : State) (slots : List Slot) (n : Nat) (result : Nat → BitVec 32) :
    (withSlots s slots).bitFieldRead n result = withSlots (s.bitFieldRead n result) slots := by
  rcases s.bitFieldRead_cases n result with ⟨wide, e⟩ | ⟨wide, room, e⟩ | ⟨wide, room, e⟩ <;> rw [e]
  · simp only [State.bitFieldRead, wide]
    rfl
  · simp only [State.bitFieldRead, withSlots, wide, room]
    rfl
  · simp only [State.bitFieldRead, withSlots, wide, room]
    rfl

/-- Of the slot table, KEYLOAD looks at whether its MAC is loaded and at the least free slot. -/
theorem exec_keyload_withSlots {s t : State} {mac : Mac} {kbytes : Bytes} {slots : List Slot} (hf : s.fault = false)
    (found : lookup slots mac = lookup s.slots mac) (free : firstFree slots = firstFree s.slots)
    (h : exec (.keyload mac kbytes) s = .next t) :
    ∃ after, exec (.keyload mac kbytes) (withSlots s slots) = .next (withSlots t after) := by
  by_cases length : kbytes.length = 16
  case neg =>
    obtain rfl := Host.Outcome.next.inj ((exec_keyload_of_length_ne hf length).symm.trans h)
    exact ⟨slots, exec_keyload_of_length_ne (s := withSlots s slots) hf length⟩
  by_cases new : lookup s.slots mac = none
  case neg =>
    obtain rfl := Host.Outcome.next.inj ((exec_keyload_of_known hf length new).symm.trans h)
    exact ⟨slots, exec_keyload_of_known (s := withSlots s slots) hf length (found ▸ new)⟩
  cases place : firstFree s.slots with
  | none =>
    obtain rfl := Host.Outcome.next.inj ((exec_keyload_of_full hf length new place).symm.trans h)
    exact ⟨slots, exec_keyload_of_full (s := withSlots s slots) hf length (found.trans new) (free.trans place)⟩
  | some i =>
    obtain rfl := Host.Outcome.next.inj ((exec_keyload_of_free hf length new place).symm.trans h)
    exact ⟨_, exec_keyload_of_free (s := withSlots s slots) hf length (found.trans new) (free.trans place)⟩

/-- No command but a DECODE looks at more of the slot table than `lookup` and `firstFree` answer. -/
theorem exec_withSlots {i : Instr} {s t : State} {slots : List Slot} (other : ¬ IsDecode i)
    (found : ∀ mac, lookup slots mac = lookup s.slots mac) (free : firstFree slots = firstFree s.slots)
    (h : exec i s = .next t) : ∃ after, exec i (withSlots s slots) = .next (withSlots t after) := by
  by_cases hi : i = .reset
  · subst hi
    obtain rfl := Host.Outcome.next.inj h
    exact ⟨State.reset.slots, rfl⟩
  cases hf : s.fault
  case true =>
    obtain rfl := eq_refuseFaulted_of_exec hi hf h
    exact ⟨slots, exec_of_faulted (s := withSlots s slots) hi hf⟩
  cases i
  case reset => exact absurd rfl hi
  case keyload mac kbytes => exact exec_keyload_withSlots hf (found mac) free h
  case brreadu n => exact accept_withSlots slots hf (exec_brreadu n s ▸ h) (bitFieldRead_withSlots ..)
  case brreads n => exact accept_withSlots slots hf (exec_brreads n s ▸ h) (bitFieldRead_withSlots ..)
  case ctrcrypt kbytes c data =>
    simp only [exec, execCtrcrypt] at h ⊢
    exact accept_withSlots slots hf h (by cases keyOfBytes kbytes <;> rfl)
  case parsehdr raw =>
    simp only [exec, execParsehdr] at h ⊢
    exact accept_withSlots slots hf h (by cases parseHeader raw <;> rfl)
  case bropen bytes => exact accept_withSlots slots hf (exec_bropen bytes s ▸ h) rfl
  case brcan n => exact accept_withSlots slots hf (exec_brcan n s ▸ h) rfl
  case classify model mode => exact accept_withSlots slots hf (exec_classify model mode s ▸ h) rfl
  case decrec kind pt => exact accept_withSlots slots hf (exec_decrec kind pt s ▸ h) rfl
  case decode env raw => exact absurd (isDecode_decode env raw) other
  all_goals exact absurd (isDecode_of_frame rfl) other

/-- A search by a property that a map keeps finds the same index before and after the map. -/
theorem findIdx?_mapIdx {α : Type} {p : α → Bool} (l : List α) {f : Nat → α → α} (keeps : ∀ n a, p (f n a) = p a) :
    (l.mapIdx f).findIdx? p = l.findIdx? p := by
  induction l generalizing f with
  | nil => rfl
  | cons a l ih => simp [List.mapIdx_cons, List.findIdx?_cons, keeps, ih]

theorem lookup_withKeys (s : State) (keys : Nat → Block) (mac : Mac) :
    lookup (withKeys s keys).slots mac = lookup s.slots mac := findIdx?_mapIdx _ fun _ _ => rfl

theorem firstFree_withKeys (s : State) (keys : Nat → Block) : firstFree (withKeys s keys).slots = firstFree s.slots :=
  findIdx?_mapIdx _ fun _ _ => rfl

/-- Settles O60: the slot tables with the two sets of keys answer `lookup` and `firstFree` alike, and no command but a DECODE
looks at more of them. -/
theorem keysStayHidden : Obligations.KeysStayHidden := by
  intro i s t t' keys other h h'
  obtain ⟨after, run⟩ := exec_withSlots other (lookup_withKeys s keys) (firstFree_withKeys s keys) h
  obtain rfl := Host.Outcome.next.inj (run.symm.trans h')
  exact ⟨rfl, rfl, rfl, rfl, rfl⟩

end Sys2Proof.Proofs

/-! PROOFS. The exceptions (60_exceptions.md R290): what a block in a sticky fault answers, command by command. -/

namespace Sys2Proof.Proofs

open Sys2Proof.Machine Sys2Proof.Claims

/-- A faulted block refuses a malformed command like any other: the refusal comes before the answer `BAD_COMMAND`. -/
theorem execMalformed_of_faulted {s : State} (hf : s.fault = true) : execMalformed s = .next s.refuseFaulted :=
  State.accept_of_faulted hf _

/-- Settles O9: outside RESET there is only the refusal, which writes the status, and RESET gives the reset state. -/
theorem faultedRefusesAllButReset : Obligations.FaultedRefusesAllButReset := by
  intro s hf
  refine ⟨fun i hi => ?_, ?_, s.toReset, ?_, s.toReset_fault⟩
  · exact exec_of_faulted hi hf
  · exact execMalformed_of_faulted hf
  · exact resetGivesResetState.1 s

end Sys2Proof.Proofs

/-! PROOFS. The reset state (70_reset_and_hazards.md R320) meets the invariant that every step then keeps. -/

namespace Sys2Proof.Proofs

open Sys2Proof.Machine

/-- The reset state is what a RESET makes of it: its command port is already empty. -/
theorem toReset_reset : State.reset.toReset = State.reset := rfl

/-- Settles O12: a RESET gives the invariant from every state, and it leaves the reset state as it is. -/
theorem invariantHoldsAtReset : Obligations.InvariantHoldsAtReset := by
  unfold Obligations.InvariantHoldsAtReset
  rw [← toReset_reset]
  exact inv_toReset State.reset

end Sys2Proof.Proofs
